-- ==== Sys2Proof/Word.lean ====
section
/-! DEFINITION. The widths the manual uses: bytes, 16-bit sequence numbers and epochs, 32-bit
words, word addresses and lane masks (00_scope.md, Conventions). -/

namespace Sys2Proof

/-- One byte, a data character's value. -/
abbrev Byte := BitVec 8

/-- A 16-bit value: a sequence number, an epoch, a digest, a CRC, a counter. -/
abbrev Half := BitVec 16

/-- A 32-bit data word or item value. -/
abbrev Word := BitVec 32

/-- The address of a word: the 24-bit byte address without its two low bits, which are 0
(00_scope.md, "Word: 4 bytes on a 4-byte boundary"). -/
abbrev WordAddr := BitVec 22

/-- Four byte-lane enables; bit `i` is lane `i` (11.1). -/
abbrev LaneMask := BitVec 4

/-- The byte address of a word. -/
def WordAddr.byte (a : WordAddr) : Nat := 4 * a.toNat

/-- The full mask: all four lanes (11.1). -/
def fullMask : LaneMask := 15#4

end Sys2Proof
end

