-- ==== Sys2Proof/Config.lean ====
section
/-! DEFINITION. What the part fixes: sizes and identification codes. The spec leaves no value of a
step to the implementation, so there is no free value here. -/

namespace Sys2Proof.Config

/-- Entries of the replay list (R23). -/
def listEntries : Nat := 64

/-- Slots of the receive buffer (R62). -/
def rxSlots : Nat := 4

/-- The most data characters a frame may hold: 80 payload bytes and two CRC characters (R59). -/
def maxDataChars : Nat := 82

/-- Blocks of 4 KiB in the address space (R115). -/
def blocks : Nat := 4096

/-- Chunks of 64 bytes in a block (00_scope.md). -/
def chunksPerBlock : Nat := 64

/-- Words in a chunk (00_scope.md). -/
def wordsPerChunk : Nat := 16

/-- Bytes in the address space (00_scope.md). -/
def addressSpace : Nat := 16777216

/-- The highest fairness count (R152). -/
def fairnessLimit : Nat := 4

/-- The management target address with the ADDR straps at 0 (R169). -/
def targetBase : Nat := 92

/-- The value of DEVICE_ID: vendor 0x2D7, part 4216, revision 1 (11.4). -/
def deviceId : Word := 0x2D710781#32

/-- The read command and the two address bytes the loader sends first (R200). -/
def loaderCommand : List Byte := [0x03#8, 0x00#8, 0x00#8]

/-- What the port's data input samples with no memory driving it: its pull-up (R188). -/
def pulledUpBit : Bool := true

end Sys2Proof.Config
end

