-- ==== Sys2Proof/Syntax.lean ====
section
/-! DEFINITION. The commands: one constructor per row of opcode_table.json. The table gives the rows no
fields; each operand is what the rule that governs the row says the outside presents.

A management transaction carries the 7-bit target address of its address byte (R169), and a write its four
data bytes (R170); a row of COMMAND is the write of its own code, so its bytes are no operand. The frames
that the dispatcher hands on are the oldest frames of the receive buffer, so the rows that take one
have no operand. -/

namespace Sys2Proof

/-- The kind of a host request (R139). -/
inductive HostKind where
  | read
  | write
  deriving DecidableEq, Repr

/-- Memory's answer to a transaction: OK with the data lines (used by a read), or FAULT (R151). -/
inductive MemAnswer where
  | ok (data : Word)
  | fault
  deriving DecidableEq, Repr

/-- The four data bytes of a write, in the order in which they come after the item number byte (R170). -/
structure DataBytes where
  first : Byte
  second : Byte
  third : Byte
  fourth : Byte
  deriving DecidableEq, Repr

/-- The steps of the part (opcode_table.json, row by row). -/
inductive Instr where
  /-- COLD_RESET (R185): power-up or assertion of RESET. -/
  | coldReset
  /-- COLD_RESET_END (R185): release of RESET; the strap levels sampled then (R169). -/
  | coldResetEnd (addr : BitVec 2) (loadEn : Bool)
  /-- WARM_RESET (R186): assertion of WRST. -/
  | warmReset
  /-- WARM_RESET_END (R186): release of WRST. -/
  | warmResetEnd
  /-- LOAD_COMMIT (R192): the load ends by committing; the bits that the port samples from the configuration memory,
  from address 0 (R200). -/
  | loadCommit (image : List Bool)
  /-- LOAD_FAIL (R193): the load ends ABSENT or FAILED; the bits that the port samples from the configuration memory,
  from address 0 (R200). -/
  | loadFail (image : List Bool)
  /-- HOST_REQUEST (R140): the controller presents a request. -/
  | hostRequest (kind : HostKind) (addr : WordAddr) (lanes : LaneMask) (data : Word)
  /-- MEMORY_GRANT (R152). -/
  | memoryGrant
  /-- HOST_MEMORY_ANSWER (R143). -/
  | hostMemoryAnswer (answer : MemAnswer)
  /-- COALESCE_TIMER_EXPIRY (R20). -/
  | coalesceTimerExpiry
  /-- HOLD_RESERVED (R41). -/
  | holdReserved
  /-- HOLD_TIMER_EXPIRY (R42). -/
  | holdTimerExpiry
  /-- CONFIRM_TIMER_EXPIRY (R148). -/
  | confirmTimerExpiry
  /-- LINK_CHARACTER (R52): the twelve bits judged at their centres, bit `i` the bit of bit time `i` (11.1). -/
  | linkCharacter (bits : BitVec 12)
  /-- HELLO_RECEIVED (R78). -/
  | helloReceived
  /-- PULSE_RECEIVED (R80). -/
  | pulseReceived
  /-- ACK_RECEIVED (R33). -/
  | ackReceived
  /-- NAK_RECEIVED (R36). -/
  | nakReceived
  /-- FRAME_DISCARDED (R63). -/
  | frameDiscarded
  /-- RECORD_TAKEN (R100). -/
  | recordTaken
  /-- APPLY_WRITE_ANSWER (R105). -/
  | applyWriteAnswer (answer : MemAnswer)
  /-- FRAME_END (R64). -/
  | frameEnd
  /-- PULSE_TIMER_EXPIRY (R66). -/
  | pulseTimerExpiry
  /-- HELLO_INTERVAL_EXPIRY (R77). -/
  | helloIntervalExpiry
  /-- RETRY_TIMER_EXPIRY (R38). -/
  | retryTimerExpiry
  /-- LOSS_TIMER_EXPIRY (R82). -/
  | lossTimerExpiry
  /-- PROMOTE_TIMER_EXPIRY (R89). -/
  | promoteTimerExpiry
  /-- DRAIN_TIMER_EXPIRY (R91). -/
  | drainTimerExpiry
  /-- HANDOVER_MARKER_APPEND (R91). -/
  | handoverMarkerAppend
  /-- MARKER_APPEND (R27). -/
  | markerAppend
  /-- WALKER_TAKE_BLOCK (R125). -/
  | walkerTakeBlock
  /-- WALKER_OPEN_SYNC (R126). -/
  | walkerOpenSync
  /-- WALKER_READ_ANSWER (R127). -/
  | walkerReadAnswer (answer : MemAnswer)
  /-- AUTO_RESYNC_TAKEN (R165). -/
  | autoResyncTaken
  /-- SET_ACTIVE (R86): a write of COMMAND with the bytes 0, 0, 0, 1. -/
  | setActive (target : BitVec 7)
  /-- SET_STANDBY (R87): a write of COMMAND with the bytes 0, 0, 0, 2. -/
  | setStandby (target : BitVec 7)
  /-- SET_NONE (R88): a write of COMMAND with the bytes 0, 0, 0, 3. -/
  | setNone (target : BitVec 7)
  /-- HANDOVER (R90): a write of COMMAND with the bytes 0, 0, 0, 4. -/
  | handover (target : BitVec 7)
  /-- RESYNC (R119): a write of COMMAND with the bytes 0, 0, 0, 5. -/
  | resync (target : BitVec 7)
  /-- RESTART (R181): a write of COMMAND with the bytes 0, 0, 0, 6. -/
  | restart (target : BitVec 7)
  /-- RELOAD (R182): a write of COMMAND with the bytes 0, 0, 0, 7. -/
  | reload (target : BitVec 7)
  /-- CLEAR_COUNTERS (R180): a write of COMMAND with the bytes 0, 0, 0, 8. -/
  | clearCounters (target : BitVec 7)
  /-- EVENT_CLEAR (R158): a write of the item EVENT_CLEAR. -/
  | eventClear (target : BitVec 7) (data : DataBytes)
  /-- EVENT_ROUTES (R160): a write of the item EVENT_ROUTES. -/
  | eventRoutes (target : BitVec 7) (data : DataBytes)
  /-- LINK_CONTROL (R51): a write of the item LINK_CONTROL. -/
  | linkControl (target : BitVec 7) (data : DataBytes)
  /-- REGION_SPAN (R5): a write of the span item of entry `n`. -/
  | regionSpan (target : BitVec 7) (n : BitVec 4) (data : DataBytes)
  /-- REGION_MODE (R6): a write of the mode item of entry `n`. -/
  | regionMode (target : BitVec 7) (n : BitVec 4) (data : DataBytes)
  /-- ITEM_WRITE (R174): a four-byte write of any other item. -/
  | itemWrite (target : BitVec 7) (item : Byte) (data : DataBytes)
  /-- ITEM_SELECT (R170): an item number and no data byte. -/
  | itemSelect (target : BitVec 7) (item : Byte)
  /-- SHORT_WRITE (R170): an item number and data bytes, neither none nor four of them. -/
  | shortWrite (target : BitVec 7) (item : Byte) (data : List Byte)
  /-- RECEIVER_RESUMES_HUNTING (R53): the receive line is back at 1. -/
  | receiverResumesHunting
  /-- ITEM_READ (R171): a read of the selected item; `count` is how many bytes the initiator takes. -/
  | itemRead (target : BitVec 7) (count : Nat)
  deriving DecidableEq, Repr

end Sys2Proof
end

