-- ==== Sys2Proof/WellFormed.lean ====
section
/-! DEFINITION. Which terms of `Instr` spell a step of the table. The types already keep addresses
word aligned and fields within their widths; the checks here are the ones the types do not make. -/

namespace Sys2Proof

/-- The most bytes an image holds: a header of 8 bytes and 255 entries of 5 (11.3). -/
def maxImageBytes : Nat := 8 + 5 * 255

/-- Whether a write of these four bytes to this item is a row of its own (EVENT_CLEAR,
EVENT_ROUTES, LINK_CONTROL, REGION_SPAN, REGION_MODE, or one of the eight commands of COMMAND). -/
def hasOwnRow (item : Byte) (data : DataBytes) : Bool :=
  item == 0x31#8 || item == 0x32#8 || item == 0x38#8
    || (0x60 ≤ item.toNat && item.toNat ≤ 0x7F)
    || (item == 0x50#8 && data.first == 0#8 && data.second == 0#8 && data.third == 0#8
      && 1 ≤ data.fourth.toNat && data.fourth.toNat ≤ 8)

/-- The well-formed commands. -/
def Instr.wf : Instr → Bool
  | .loadCommit image => image.length ≤ 8 * maxImageBytes
  | .loadFail image => image.length ≤ 8 * maxImageBytes
  | .itemWrite _ item data => !hasOwnRow item data
  | .shortWrite _ _ data => data.length != 0 && data.length != 4
  | .itemRead _ count => 1 ≤ count
  | _ => true

end Sys2Proof
end

