-- ==== Sys2Proof/Machine/State.lean ====
section
/-! DEFINITION. The state of one unit as plain data, block by block, and its value at cold reset.
INVENTORY.md lists every field with its rule. -/

namespace Sys2Proof.Machine

/-- Why a step stops with a fault. There is no constructor: the spec gives no step that stops the
unit (FAULT is a response of the bus, a protocol fault is a change of link state). -/
inductive Fault : Type
  deriving DecidableEq, Repr

/-- Why a command is refused by the model. -/
inductive Refusal where
  /-- The command has no meaning in the model. Raised only by a refused arm of `exec`, and no arm
  is refused. Safe: the machine stops where the hardware goes on. -/
  | notModelled (mnemonic : String)
  deriving DecidableEq, Repr

/-! ### Named values of the manual -/

/-- A unit's part in mirroring (R73). -/
inductive Role where
  | none
  | active
  | standby
  deriving DecidableEq, Repr

/-- The link states (R76). -/
inductive LinkState where
  | off
  | down
  | handshake
  | up
  | conflict
  | mismatch
  deriving DecidableEq, Repr

/-- The stream modes (R75). -/
inductive StreamMode where
  | closed
  | normal
  | resync
  | tracking
  | draining
  deriving DecidableEq, Repr

/-- A standby's judgement of its copy (R109). -/
inductive Consistency where
  | inconsistent
  | resyncing
  | consistent
  deriving DecidableEq, Repr

/-- The treatment of writes on an ACTIVE unit (R1). -/
inductive Policy where
  | pass
  | stream
  | confirm
  deriving DecidableEq, Repr

/-- The treatment of writes on a STANDBY unit (R1); `opened` is the manual's OPEN. -/
inductive Guard where
  | opened
  | guarded
  deriving DecidableEq, Repr

/-- The link rates in Mbit/s: 12.5, 25, 50 (R51). -/
inductive LinkRate where
  | r12
  | r25
  | r50
  deriving DecidableEq, Repr

/-- The scope of a resync (R120). -/
inductive Scope where
  | full
  | partialScope
  deriving DecidableEq, Repr

/-- The fifteen events, in the order of their numbers (R157). -/
inductive Event where
  | linkUp
  | linkLost
  | roleConflict
  | digestMismatch
  | linkError
  | confirmFail
  | holdTimeout
  | spilled
  | resyncEnd
  | partnerInconsistent
  | guardHit
  | applyFault
  | roleChanged
  | loadEnd
  | commandEnd
  deriving DecidableEq, Repr

/-- The routes of an event (R160). -/
inductive Route where
  | off
  | alert
  | reflex
  deriving DecidableEq, Repr

/-- A timer: stopped, or running with the duration in µs it started with. Elapsed time is not
modelled (log 1). -/
abbrev Timer := Option Nat

/-! ### Configuration -/

/-- One entry of the region table (R1), in the units of its span item (R201): the base as a granule
number and the granule count less one. -/
structure RegionEntry where
  enabled : Bool
  base : BitVec 16
  countLess1 : BitVec 16
  policy : Policy
  guard : Guard
  deriving DecidableEq, Repr

/-- The configuration items (R174, R191). -/
structure Settings where
  linkEnable : Bool
  linkRate : LinkRate
  coalesceLimit : BitVec 5
  coalesceWindow : BitVec 8
  window : BitVec 5
  retryTimeout : BitVec 16
  retryLimit : BitVec 4
  holdTimeout : BitVec 16
  helloInterval : BitVec 14
  lossTimeout : BitVec 16
  drainTimeout : BitVec 8
  promoteDelay : BitVec 8
  startRole : Role
  pulseInterval : BitVec 13
  confirmTimeout : BitVec 16
  routes : BitVec 30
  regions : Vector RegionEntry 16
  deriving DecidableEq, Repr

/-! ### Loader -/

/-- The load states (R187). -/
inductive LoadState where
  | loading
  | loaded
  | absent
  | failed
  | skipped
  deriving DecidableEq, Repr

/-- The configuration loader (R187, R188, R200). `reading`: the memory is selected, its select line low.
`portOut`: the bits sent on the data line to the memory since it was selected, in their order. -/
structure Loader where
  state : LoadState
  failIndex : Byte
  reading : Bool
  portOut : List Bool
  deriving DecidableEq, Repr

/-! ### Host port and memory port -/

/-- A controller request (R139). -/
structure HostReq where
  kind : HostKind
  addr : WordAddr
  lanes : LaneMask
  data : Word
  deriving DecidableEq, Repr

/-- The outcome of a classification kept with the request (R140). -/
structure HostClass where
  role : Role
  region : Option (BitVec 4)
  policy : Policy
  deriving DecidableEq, Repr

/-- Why a write is held (R144). -/
inductive HoldKind where
  | list
  | drain
  deriving DecidableEq, Repr

/-- The host port's states with what each keeps (R139). `counted`: the write already rose HOLDS
(R144). `condemned`: its response is fixed as FAULT (R149). -/
inductive PortState where
  | idle
  | held (hold : HoldKind) (req : HostReq) (cls : HostClass) (counted : Bool)
  | forwarded (req : HostReq) (cls : HostClass) (condemned : Bool)
  | withheld (req : HostReq)
  deriving DecidableEq, Repr

/-- A response on the host bus (R139). -/
inductive HostResponse where
  | readOk (data : Word)
  | writeOk
  | fault
  deriving DecidableEq, Repr

/-- The host port. `response` is the response passed back for the request last accepted. -/
structure HostPort where
  port : PortState
  response : Option HostResponse
  confirmTimer : Timer
  lastGuardAddr : WordAddr
  deriving DecidableEq, Repr

/-- A request of the internal requester (R151). -/
inductive InternalOp where
  | applyWrite (addr : WordAddr) (lanes : LaneMask) (data : Word)
  | walkerRead (addr : WordAddr)
  deriving DecidableEq, Repr

/-- The transaction on the memory bus (R151); `disowned`: its answer will be discarded (R153). -/
inductive BusTxn where
  | host (req : HostReq)
  | internal (op : InternalOp) (disowned : Bool)
  deriving DecidableEq, Repr

/-- The memory port and its arbiter (R151, R152). -/
structure MemPort where
  bus : Option BusTxn
  waiting : Option InternalOp
  fairness : Nat
  deriving DecidableEq, Repr

/-! ### Records, frames and the replay list -/

/-- The two kinds of record that carry memory data (R24). -/
inductive DataKind where
  | write
  | sync
  deriving DecidableEq, Repr

/-- One word of a record with its lane mask (R24). -/
structure DataWord where
  mask : LaneMask
  data : Word
  deriving DecidableEq, Repr

/-- What a record carries by its kind (R24). The word count of a closed record is the number of
its words; an open SYNC record holds the words read so far. -/
inductive RecordBody where
  | data (kind : DataKind) (region : BitVec 4) (start : WordAddr) (words : List DataWord)
  | beginMark (epoch : Half) (scope : Scope)
  | endMark
  | handoverMark (epoch : Half)
  deriving DecidableEq, Repr

/-- The states of a record (R25); `opened` is the manual's OPEN. -/
inductive RecState where
  | opened
  | pending
  | sent
  deriving DecidableEq, Repr

/-- A record of the replay list (R24). -/
structure Rec where
  seq : Half
  body : RecordBody
  state : RecState
  waiter : Bool
  transmitted : Bool
  deriving DecidableEq, Repr

/-- The replay list (R23 to R28, R37, R38, R40, R47). -/
structure ReplayList where
  records : List Rec
  reserved : Bool
  nextSeq : Half
  waitingMarker : Option RecordBody
  retryCount : Nat
  retryTimer : Timer
  holdTimer : Timer
  coalesceTimer : Timer
  retransmits : Half
  holds : Half
  deriving DecidableEq, Repr

/-- The frame types (R54, R55). -/
inductive FrameType where
  | hello
  | pulse
  | record
  | ack
  | nak
  deriving DecidableEq, Repr

/-- The fields of a HELLO (R57). The epoch is present or absent. -/
structure Hello where
  role : Role
  seen : Bool
  streamOpen : Bool
  epoch : Option Half
  consistency : Consistency
  digest : Half
  seqA : Half
  seqB : Half
  deriving DecidableEq, Repr

/-- The fields of a PULSE (R57). -/
structure Pulse where
  role : Role
  epoch : Option Half
  consistency : Consistency
  seq : Half
  deriving DecidableEq, Repr

/-- A frame with its fields (R55, R57). -/
inductive Frame where
  | hello (h : Hello)
  | pulse (p : Pulse)
  | record (seq : Half) (body : RecordBody)
  | ack (seq : Half)
  | nak (seq : Half)
  deriving DecidableEq, Repr

/-! ### Link datapath -/

/-- The receiver (R52, R53). -/
inductive Receiver where
  | notWatching
  | hunting
  | awaitingLine
  deriving DecidableEq, Repr

/-- The frame assembler (R58): in IN_FRAME its type, data characters and running CRC. -/
inductive Assembler where
  | hunt
  | inFrame (type : FrameType) (data : List Byte) (crc : Half)
  | discard
  deriving DecidableEq, Repr

/-- The link receiver, its buffer and its counters (R58, R62, R71). -/
structure LinkRx where
  receiver : Receiver
  assembler : Assembler
  buffer : List Frame
  charErrors : Half
  badFrames : Half
  rxDrops : Half
  deriving DecidableEq, Repr

/-- The serializer (R64, R69): free, sending a frame from its copy, or sending an ABORT. -/
inductive Serializer where
  | free
  | sending (frame : Frame)
  | aborting
  deriving DecidableEq, Repr

/-- The acknowledgement request (R67). -/
inductive AckRequest where
  | none
  | ack
  | nak
  deriving DecidableEq, Repr

/-- The link transmitter and its scheduler's requests (R64 to R67). -/
structure LinkTx where
  serializer : Serializer
  helloDue : Bool
  ackRequest : AckRequest
  pulseDue : Bool
  pulseTimer : Timer
  deriving DecidableEq, Repr

/-! ### Pairing controller -/

/-- The partner as last heard (R80). -/
structure PartnerView where
  heard : Bool
  role : Role
  consistency : Consistency
  epoch : Option Half
  seq : Half
  streamOpen : Bool
  digest : Half
  deriving DecidableEq, Repr

/-- Role, link state, partner view and timers (R73, R76, R80, R96). -/
structure Pairing where
  role : Role
  link : LinkState
  partner : PartnerView
  helloTimer : Timer
  lossTimer : Timer
  promoteTimer : Timer
  drainTimer : Timer
  deriving DecidableEq, Repr

/-- The stream state of an ACTIVE unit (R75). -/
structure Stream where
  mode : StreamMode
  isOpen : Bool
  epoch : Half
  basisEpoch : Half
  basisValid : Bool
  deriving DecidableEq, Repr

/-! ### Apply engine -/

/-- The causes of an apply fault (R113). -/
inductive FaultCause where
  | none
  | regionCheck
  | memory
  deriving DecidableEq, Repr

/-- The last apply fault (R113). -/
structure LastFault where
  cause : FaultCause
  seq : Half
  addr : WordAddr
  deriving DecidableEq, Repr

/-- The record being applied and the index of its next word (R97). -/
structure HeldRecord where
  seq : Half
  start : WordAddr
  words : List DataWord
  next : Nat
  deriving DecidableEq, Repr

/-- The apply engine (R97). -/
structure ApplyEngine where
  consistency : Consistency
  heldEpoch : Option Half
  expected : Half
  gap : Bool
  held : Option HeldRecord
  handoverPending : Option (Half × Half)
  lastFault : LastFault
  deriving DecidableEq, Repr

/-! ### Resync block -/

/-- The walker's run states (R124). -/
inductive RunState where
  | stopped
  | running
  | paused
  | finished
  deriving DecidableEq, Repr

/-- The outcomes of a resync (R137). -/
inductive ResyncOutcome where
  | none
  | running
  | complete
  | failed
  | interrupted
  deriving DecidableEq, Repr

/-- The walker, the resync status and the auto-resync request (R124, R137, R164). `pauseDue`: a
change to PAUSED waits for the open SYNC record to close (R124). -/
structure Walker where
  run : RunState
  pauseDue : Bool
  cursor : Nat
  taken : Bool
  nextChunk : Nat
  outcome : ResyncOutcome
  scope : Scope
  epoch : Half
  autoRequest : Bool
  deriving DecidableEq, Repr

/-! ### Event unit and management port -/

/-- The auto-promote part of REFLEX_STATUS (R166). -/
inductive AutoPromote where
  | none
  | waiting
  | promoted
  | declined
  | cancelled
  deriving DecidableEq, Repr

/-- The auto-resync part of REFLEX_STATUS (R166). -/
inductive AutoResync where
  | none
  | pending
  | started
  | replaced
  | handoverCancelled
  | noEffect
  deriving DecidableEq, Repr

/-- The event unit (R157, R161, R166). -/
structure EventUnit where
  flags : BitVec 15
  alert : Bool
  autoPromote : AutoPromote
  autoResync : AutoResync
  deriving DecidableEq, Repr

/-- The access statuses (R172). -/
inductive Access where
  | ok
  | unknown
  | readOnly
  | short
  | locked
  | badValue
  | loading
  deriving DecidableEq, Repr

/-- The commands of the command slot (R177). -/
inductive Command where
  | setActive
  | setStandby
  | setNone
  | handover
  | resync
  | restart
  | reload
  | clearCounters
  deriving DecidableEq, Repr

/-- The state field of COMMAND_RESULT (R178). -/
inductive CmdState where
  | idle
  | inProgress
  | done
  | refused
  deriving DecidableEq, Repr

/-- The reasons of a refusal (R178). -/
inductive Reason where
  | none
  | busy
  | notActive
  | linkNotUp
  | partnerNotReady
  | streamNotNormal
  | partnerActive
  | drainTimeout
  | linkLost
  | partnerInconsistent
  | notNone
  deriving DecidableEq, Repr

/-- The detail field of COMMAND_RESULT (R178, R183): a handover's phase or outcome, or a reload's
load outcome. -/
inductive Detail where
  | none
  | drain
  | marked
  | committed
  | confirmed
  | unconfirmed
  | loaded
  | absent
  | failed
  deriving DecidableEq, Repr

/-- COMMAND_RESULT (R178). -/
structure CmdResult where
  command : Option Command
  state : CmdState
  reason : Reason
  detail : Detail
  busyRefusal : Option Command
  deriving DecidableEq, Repr

/-- The management port (R184). `acked`: how many bytes of the last transaction the unit acknowledged, its address
byte first (R169, R170). `readBytes`: the bytes sent in the last read transaction. -/
structure MgmtPort where
  strapAddr : BitVec 2
  strapLoadEn : Bool
  selected : Byte
  access : Access
  result : CmdResult
  acked : Nat
  readBytes : List Byte
  deriving DecidableEq, Repr

/-! ### The unit -/

/-- Whether the unit runs, is held in cold reset (R185), or is in a warm reset by WRST (R186). -/
inductive ResetPhase where
  | cold
  | warm
  | running
  deriving DecidableEq, Repr

/-- One Hofwin 4216 and the commands that wait for it. -/
structure State where
  pending : List Instr
  phase : ResetPhase
  wrst : Bool
  cfg : Settings
  loader : Loader
  host : HostPort
  mem : MemPort
  list : ReplayList
  rx : LinkRx
  tx : LinkTx
  pair : Pairing
  stream : Stream
  apply : ApplyEngine
  dirty : List Nat
  walker : Walker
  events : EventUnit
  mgmt : MgmtPort
  deriving DecidableEq, Repr

/-! ### Reset values, block by block -/

/-- The reset value of a region table entry (R2). -/
def RegionEntry.reset : RegionEntry :=
  { enabled := false, base := 0#16, countLess1 := 0#16, policy := .pass, guard := .opened }

/-- The defaults of the configuration items (11.4). -/
def Settings.reset : Settings where
  linkEnable := false
  linkRate := .r25
  coalesceLimit := 16#5
  coalesceWindow := 4#8
  window := 8#5
  retryTimeout := 500#16
  retryLimit := 6#4
  holdTimeout := 10000#16
  helloInterval := 1000#14
  lossTimeout := 2000#16
  drainTimeout := 50#8
  promoteDelay := 20#8
  startRole := .none
  pulseInterval := 200#13
  confirmTimeout := 5000#16
  routes := 0#30
  regions := Vector.replicate 16 RegionEntry.reset

/-- The loader while cold reset lasts: idle, the memory deselected (R185, R197). The load state is
decided by COLD_RESET_END; DESIGN CHOICE SKIPPED until then (log 4). -/
def Loader.reset : Loader :=
  { state := .skipped, failIndex := 0#8, reading := false, portOut := [] }

/-- The host port after a cold reset (R156). -/
def HostPort.reset : HostPort :=
  { port := .idle, response := none, confirmTimer := none, lastGuardAddr := 0#22 }

/-- The memory port after a cold reset (R156). -/
def MemPort.reset : MemPort :=
  { bus := none, waiting := none, fairness := 0 }

/-- The replay list after either reset (R49). -/
def ReplayList.reset : ReplayList where
  records := []
  reserved := false
  nextSeq := 0#16
  waitingMarker := none
  retryCount := 0
  retryTimer := none
  holdTimer := none
  coalesceTimer := none
  retransmits := 0#16
  holds := 0#16

/-- The link receiver while the link is not enabled (R72). -/
def LinkRx.reset : LinkRx where
  receiver := .notWatching
  assembler := .hunt
  buffer := []
  charErrors := 0#16
  badFrames := 0#16
  rxDrops := 0#16

/-- The link transmitter after a cold reset (R72). -/
def LinkTx.reset : LinkTx :=
  { serializer := .free, helloDue := false, ackRequest := .none, pulseDue := false, pulseTimer := none }

/-- The cleared partner view (R80). -/
def PartnerView.cleared : PartnerView where
  heard := false
  role := .none
  consistency := .inconsistent
  epoch := none
  seq := 0#16
  streamOpen := false
  digest := 0#16

/-- The pairing controller while cold reset lasts (R96). -/
def Pairing.reset : Pairing where
  role := .none
  link := .off
  partner := PartnerView.cleared
  helloTimer := none
  lossTimer := none
  promoteTimer := none
  drainTimer := none

/-- The stream state after a cold reset (R96). -/
def Stream.reset : Stream :=
  { mode := .closed, isOpen := false, epoch := 0#16, basisEpoch := 0#16, basisValid := false }

/-- The cleared last apply fault (R113). -/
def LastFault.cleared : LastFault :=
  { cause := .none, seq := 0#16, addr := 0#22 }

/-- The apply engine after either reset (R114). -/
def ApplyEngine.reset : ApplyEngine where
  consistency := .inconsistent
  heldEpoch := none
  expected := 0#16
  gap := false
  held := none
  handoverPending := none
  lastFault := LastFault.cleared

/-- The walker and the resync status after either reset (R138, R168). -/
def Walker.reset : Walker where
  run := .stopped
  pauseDue := false
  cursor := 0
  taken := false
  nextChunk := 0
  outcome := .none
  scope := .full
  epoch := 0#16
  autoRequest := false

/-- The event unit after either reset (R168). -/
def EventUnit.reset : EventUnit :=
  { flags := 0#15, alert := false, autoPromote := .none, autoResync := .none }

/-- COMMAND_RESULT after either reset (R184). -/
def CmdResult.reset : CmdResult :=
  { command := none, state := .idle, reason := .none, detail := .none, busyRefusal := none }

/-- The management port after a cold reset (R184). The straps are sampled at its end; DESIGN CHOICE
0 and low until then (log 4). -/
def MgmtPort.reset : MgmtPort where
  strapAddr := 0#2
  strapLoadEn := false
  selected := 0#8
  access := .ok
  result := CmdResult.reset
  acked := 0
  readBytes := []

/-- The unit held in cold reset, as at power-up: every block at its cold reset value (R185).
COLD_RESET_END is what comes next (log 3). -/
def State.reset : State where
  pending := []
  phase := .cold
  wrst := false
  cfg := Settings.reset
  loader := Loader.reset
  host := HostPort.reset
  mem := MemPort.reset
  list := ReplayList.reset
  rx := LinkRx.reset
  tx := LinkTx.reset
  pair := Pairing.reset
  stream := Stream.reset
  apply := ApplyEngine.reset
  dirty := []
  walker := Walker.reset
  events := EventUnit.reset
  mgmt := MgmtPort.reset

end Sys2Proof.Machine
end

