-- ==== Sys2Proof/Machine/Operands.lean ====
section
/-! DEFINITION. The arithmetic the rules share: sequence order, addresses and lookup, byte order,
and the CRC (00_scope.md Conventions; R3, R4; 11.1). -/

namespace Sys2Proof.Machine

/-! ### Sequence order (00_scope.md, Sequence and epoch arithmetic) -/

/-- `a` is ahead of `b`: `(a − b)` modulo 65536 lies in 1 to 32767. -/
def ahead (a b : Half) : Bool :=
  1 ≤ (a - b).toNat && (a - b).toNat ≤ 32767

/-- `a` is behind `b`: `b` is ahead of `a`. -/
def behind (a b : Half) : Bool := ahead b a

/-- `a` is at or behind `b`. -/
def atOrBehind (a b : Half) : Bool := a == b || behind a b

/-- From `a` to `b` inclusive names `a`, every value ahead of `a` and behind `b`, and `b`. -/
def inSpan (a b n : Half) : Bool := n == a || n == b || (ahead n a && behind n b)

/-- A 16-bit counter that stops at 65535 (R47, R71). -/
def countUp (c : Half) : Half := if c == 65535#16 then c else c + 1#16

/-! ### Addresses and the region table -/

/-- First byte address of an entry (R5: granule number × 256). -/
def regionBase (e : RegionEntry) : Nat := 256 * e.base.toNat

/-- Length in bytes of an entry (R5, R201: granule count × 256, the count held less one). -/
def regionLength (e : RegionEntry) : Nat := 256 * (e.countLess1.toNat + 1)

/-- The region of the entry contains the byte address (R1). -/
def regionHas (e : RegionEntry) (a : Nat) : Bool :=
  regionBase e ≤ a && a < regionBase e + regionLength e

/-- Lookup (R3): the enabled entry with the lowest index whose region contains the address. -/
def lookup (table : Vector RegionEntry 16) (a : Nat) : Option (RegionEntry × Nat) :=
  table.toList.zipIdx.find? fun e => e.1.enabled && regionHas e.1 a

/-- The policy at an address; PASS where no enabled entry matches (R3). -/
def policyAt (table : Vector RegionEntry 16) (a : Nat) : Policy :=
  match lookup table a with
  | some (e, _) => e.policy
  | none => .pass

/-- The guard at an address; OPEN where no enabled entry matches (R3). -/
def guardAt (table : Vector RegionEntry 16) (a : Nat) : Guard :=
  match lookup table a with
  | some (e, _) => e.guard
  | none => .opened

/-- The index of the matching entry, if there is one (R3). -/
def regionIndexAt (table : Vector RegionEntry 16) (a : Nat) : Option (BitVec 4) :=
  (lookup table a).map fun e => BitVec.ofNat 4 e.2

/-- A policy under which writes are mirrored (R3). -/
def Policy.mirrors : Policy → Bool
  | .pass => false
  | .stream => true
  | .confirm => true

/-- The block in which a word lies (R115). -/
def blockOf (a : WordAddr) : Nat := a.byte / 4096

/-- First byte address of chunk `k` of block `b` (00_scope.md). -/
def chunkAddr (b k : Nat) : Nat := 4096 * b + 64 * k

/-- Chunk `k` of block `b` is a mirrored chunk: looked up by its first address (R4). -/
def mirroredChunk (table : Vector RegionEntry 16) (b k : Nat) : Bool :=
  (policyAt table (chunkAddr b k)).mirrors

/-- Block `b` is a mirrored block: at least one of its chunks is mirrored (R4). -/
def mirroredBlock (table : Vector RegionEntry 16) (b : Nat) : Bool :=
  (List.range Config.chunksPerBlock).any (mirroredChunk table b)

/-- The word `i` places after `a`. -/
def wordAfter (a : WordAddr) (i : Nat) : WordAddr := BitVec.ofNat 22 (a.toNat + i)

/-! ### Byte order: multi-byte fields most significant byte first (11, opening) -/

/-- The two bytes of a 16-bit field. -/
def halfBytes (h : Half) : List Byte := [h.extractLsb' 8 8, h.extractLsb' 0 8]

/-- The four bytes of a 32-bit field. -/
def wordBytes (w : Word) : List Byte :=
  [w.extractLsb' 24 8, w.extractLsb' 16 8, w.extractLsb' 8 8, w.extractLsb' 0 8]

/-- A 16-bit field from its two bytes. -/
def halfOf (hi lo : Byte) : Half := hi ++ lo

/-- A 32-bit field from its four bytes. -/
def wordOf (b3 b2 b1 b0 : Byte) : Word := b3 ++ b2 ++ b1 ++ b0

/-- The value that the four data bytes of a write form, the first most significant (R170). -/
def valueOf (d : DataBytes) : Word := wordOf d.first d.second d.third d.fourth

/-! ### Bit order on the configuration memory port: most significant bit first (R200) -/

/-- The bits of a byte in the order in which they are sent. -/
def bitsOfByte (b : Byte) : List Bool :=
  [b.getLsbD 7, b.getLsbD 6, b.getLsbD 5, b.getLsbD 4, b.getLsbD 3, b.getLsbD 2, b.getLsbD 1, b.getLsbD 0]

/-- The bits of bytes sent one after another. -/
def bitsOfBytes (bytes : List Byte) : List Bool := bytes.flatMap bitsOfByte

/-- The bytes that sampled bits form, eight bits each; a byte not complete is not taken. -/
def bytesOfBits : List Bool → List Byte
  | b7 :: b6 :: b5 :: b4 :: b3 :: b2 :: b1 :: b0 :: rest =>
      (BitVec.ofBool b7 ++ BitVec.ofBool b6 ++ BitVec.ofBool b5 ++ BitVec.ofBool b4
        ++ BitVec.ofBool b3 ++ BitVec.ofBool b2 ++ BitVec.ofBool b1 ++ BitVec.ofBool b0) :: bytesOfBits rest
  | _ => []

/-! ### The CRC of frames, digest and image (R56, R198) -/

/-- One data bit: shift toward the most significant end; if the bit shifted out differs from the
data bit, combine with 0x1021 (R198). -/
def crcBit (r : Half) (b : Bool) : Half :=
  if r.msb != b then (r <<< 1) ^^^ 0x1021#16 else r <<< 1

/-- One byte, most significant bit first (R198). -/
def crcByte (r : Half) (x : Byte) : Half :=
  (List.range 8).foldl (fun r i => crcBit r (x.getMsbD i)) r

/-- The register after feeding bytes in order. -/
def crcFeed (r : Half) (xs : List Byte) : Half := xs.foldl crcByte r

/-- The CRC: the register starts at 0xFFFF (R198). -/
def crc16 (xs : List Byte) : Half := crcFeed 0xFFFF#16 xs

end Sys2Proof.Machine
end

