-- ==== Sys2Proof/Machine/Formats.lean ====
section
/-! DEFINITION. The layouts the unit exchanges with the outside (chapter Formats): codes of
enumerated fields, link characters, frame payloads both ways, and the packing of region items. -/

namespace Sys2Proof.Machine

/-- A field of a 32-bit item: the value `v` with its lowest bit at position `lo`. -/
def fieldAt (lo v : Nat) : Word := BitVec.ofNat 32 v <<< lo

/-- One bit of a 32-bit item. -/
def bitAt (lo : Nat) (b : Bool) : Word := fieldAt lo b.toNat

/-! ### Codes of enumerated fields (11.2, 11.4) -/

/-- Role codes (11.2). -/
def roleCode : Role → Nat
  | .none => 0
  | .active => 1
  | .standby => 2

/-- The role a code names. -/
def roleOfCode : Nat → Option Role
  | 0 => some .none
  | 1 => some .active
  | 2 => some .standby
  | _ => none

/-- Consistency codes (11.2). -/
def consistencyCode : Consistency → Nat
  | .inconsistent => 0
  | .resyncing => 1
  | .consistent => 2

/-- The consistency a code names. -/
def consistencyOfCode : Nat → Option Consistency
  | 0 => some .inconsistent
  | 1 => some .resyncing
  | 2 => some .consistent
  | _ => none

/-- Scope codes (11.2). -/
def scopeCode : Scope → Nat
  | .full => 0
  | .partialScope => 1

/-- The scope a code names. -/
def scopeOfCode : Nat → Option Scope
  | 0 => some .full
  | 1 => some .partialScope
  | _ => none

/-- Policy codes (11.4, REGION_MODE). -/
def policyCode : Policy → Nat
  | .pass => 0
  | .stream => 1
  | .confirm => 2

/-- The policy a code names. -/
def policyOfCode : Nat → Option Policy
  | 0 => some .pass
  | 1 => some .stream
  | 2 => some .confirm
  | _ => none

/-- Guard codes (11.4, REGION_MODE). -/
def guardCode : Guard → Nat
  | .opened => 0
  | .guarded => 1

/-- The guard a one-bit field names. -/
def guardOfBit (b : Bool) : Guard := if b then .guarded else .opened

/-- Rate codes (11.4, LINK_CONTROL). -/
def rateCode : LinkRate → Nat
  | .r12 => 0
  | .r25 => 1
  | .r50 => 2

/-- The rate a code names. -/
def rateOfCode : Nat → Option LinkRate
  | 0 => some .r12
  | 1 => some .r25
  | 2 => some .r50
  | _ => none

/-- Link state codes (11.4, LINK_STATE). -/
def linkStateCode : LinkState → Nat
  | .off => 0
  | .down => 1
  | .handshake => 2
  | .up => 3
  | .conflict => 4
  | .mismatch => 5

/-- Stream mode codes (11.4, STREAM_STATE). -/
def modeCode : StreamMode → Nat
  | .closed => 0
  | .normal => 1
  | .resync => 2
  | .tracking => 3
  | .draining => 4

/-- Resync outcome codes (11.4, RESYNC_STATUS). -/
def outcomeCode : ResyncOutcome → Nat
  | .none => 0
  | .running => 1
  | .complete => 2
  | .failed => 3
  | .interrupted => 4

/-- Walker run state codes (11.4, RESYNC_STATUS). -/
def runCode : RunState → Nat
  | .stopped => 0
  | .running => 1
  | .paused => 2
  | .finished => 3

/-- Apply fault causes (11.4, LAST_APPLY_FAULT). -/
def causeCode : FaultCause → Nat
  | .none => 0
  | .regionCheck => 1
  | .memory => 2

/-- Load state codes (11.4, LOAD_STATE). -/
def loadCode : LoadState → Nat
  | .loading => 0
  | .loaded => 1
  | .absent => 2
  | .failed => 3
  | .skipped => 4

/-- Auto-promote codes (11.4, REFLEX_STATUS). -/
def autoPromoteCode : AutoPromote → Nat
  | .none => 0
  | .waiting => 1
  | .promoted => 2
  | .declined => 3
  | .cancelled => 4

/-- Auto-resync codes (11.4, REFLEX_STATUS). -/
def autoResyncCode : AutoResync → Nat
  | .none => 0
  | .pending => 1
  | .started => 2
  | .replaced => 3
  | .handoverCancelled => 4
  | .noEffect => 5

/-- Access status codes (11.4, ACCESS_STATUS). -/
def accessCode : Access → Nat
  | .ok => 0
  | .unknown => 1
  | .readOnly => 2
  | .short => 3
  | .locked => 4
  | .badValue => 5
  | .loading => 6

/-- Command codes (11.5). -/
def commandCode : Command → Nat
  | .setActive => 1
  | .setStandby => 2
  | .setNone => 3
  | .handover => 4
  | .resync => 5
  | .restart => 6
  | .reload => 7
  | .clearCounters => 8

/-- The command a code names; 0 and 9 to 15 name none (R202). -/
def commandOfCode : Nat → Option Command
  | 1 => some .setActive
  | 2 => some .setStandby
  | 3 => some .setNone
  | 4 => some .handover
  | 5 => some .resync
  | 6 => some .restart
  | 7 => some .reload
  | 8 => some .clearCounters
  | _ => none

/-- Codes of the state field of COMMAND_RESULT (11.5). -/
def cmdStateCode : CmdState → Nat
  | .idle => 0
  | .inProgress => 1
  | .done => 2
  | .refused => 3

/-- Reason codes (11.5). -/
def reasonCode : Reason → Nat
  | .none => 0
  | .busy => 1
  | .notActive => 2
  | .linkNotUp => 3
  | .partnerNotReady => 4
  | .streamNotNormal => 5
  | .partnerActive => 6
  | .drainTimeout => 7
  | .linkLost => 8
  | .partnerInconsistent => 9
  | .notNone => 10

/-- Detail codes (11.5). -/
def detailCode : Detail → Nat
  | .none => 0
  | .drain => 1
  | .marked => 2
  | .committed => 3
  | .confirmed => 4
  | .unconfirmed => 5
  | .loaded => 1
  | .absent => 2
  | .failed => 3

/-! ### Region items and the digest -/

/-- The span item of an entry: base granule, granule count less one (11.4, R201). -/
def spanValue (e : RegionEntry) : Word := e.base ++ e.countLess1

/-- The mode item of an entry (11.4). -/
def modeValue (e : RegionEntry) : Word :=
  bitAt 0 e.enabled ||| fieldAt 4 (policyCode e.policy) ||| fieldAt 8 (guardCode e.guard)

/-- The region digest: the CRC over the span and mode item of every entry in turn (R8). -/
def regionDigest (table : Vector RegionEntry 16) : Half :=
  crc16 (table.toList.flatMap fun e => wordBytes (spanValue e) ++ wordBytes (modeValue e))

/-! ### Link characters (R50, R54, 11.1) -/

/-- The code of a start-of-frame character, the type code of its frame (R54, 11.1). -/
def sofCode : FrameType → Byte
  | .hello => 0x11#8
  | .pulse => 0x12#8
  | .record => 0x13#8
  | .ack => 0x14#8
  | .nak => 0x15#8

/-- The code of EOF (11.1). -/
def eofCode : Byte := 0x1E#8

/-- The code of ABORT (11.1). -/
def abortCode : Byte := 0x1F#8

/-- Whether the number of ones is odd. -/
def oddOnes {w : Nat} (x : BitVec w) : Bool :=
  (List.range w).foldl (fun p i => p ^^ x.getLsbD i) false

/-- The twelve bits of a character, bit `i` sent at bit time `i`: start 0, the eight value bits, the
marker, the parity bit that makes the parity odd, stop 1 (R50). -/
def characterBits (control : Bool) (value : Byte) : BitVec 12 :=
  let content : BitVec 9 := BitVec.ofBool control ++ value
  1#1 ++ BitVec.ofBool (!oddOnes content) ++ content ++ 0#1

/-- What the receiver passes to the frame assembler (R54), a character error among them (R53). -/
inductive RxSymbol where
  | data (b : Byte)
  | sof (t : FrameType)
  | eof
  | abort
  | error
  deriving DecidableEq, Repr

/-- The control character a code names, if any (R54, R198). -/
def symbolOfCode (code : Byte) : RxSymbol :=
  if code = 0x11#8 then .sof .hello
  else if code = 0x12#8 then .sof .pulse
  else if code = 0x13#8 then .sof .record
  else if code = 0x14#8 then .sof .ack
  else if code = 0x15#8 then .sof .nak
  else if code = eofCode then .eof
  else if code = abortCode then .abort
  else .error

/-- The value bits of a character (11.1, bit times 1 to 8). -/
def charValue (bits : BitVec 12) : Byte := bits.extractLsb' 1 8

/-- The start bit read as 1: a false start (R52). -/
def falseStart (bits : BitVec 12) : Bool := bits.getLsbD 0

/-- The stop bit is 0: a stop error (R53). -/
def stopError (bits : BitVec 12) : Bool := !bits.getLsbD 11

/-- The parity of bit times 1 to 10 is not odd: a parity error (R53). -/
def parityError (bits : BitVec 12) : Bool := !oddOnes (bits.extractLsb' 1 10)

/-- A character that is no false start, as the assembler sees it (R53, R54). -/
def symbolOf (bits : BitVec 12) : RxSymbol :=
  if parityError bits || stopError bits then .error
  else if bits.getLsbD 9 then symbolOfCode (charValue bits)
  else .data (charValue bits)

/-! ### Frame payloads, sending (R55, R199, 11.2) -/

/-- The type of a frame. -/
def frameType : Frame → FrameType
  | .hello _ => .hello
  | .pulse _ => .pulse
  | .record _ _ => .record
  | .ack _ => .ack
  | .nak _ => .nak

/-- A flags byte of a HELLO or PULSE (11.2). -/
def flagsByte (seen streamOpen epochPresent : Bool) (c : Consistency) : Byte :=
  BitVec.ofNat 8
    (seen.toNat + 2 * streamOpen.toNat + 4 * epochPresent.toNat + 16 * consistencyCode c)

/-- An epoch field: sent as 0 when absent (R199). -/
def epochField (e : Option Half) : Half := e.getD 0#16

/-- The kind code of a record (11.2). -/
def kindCode : RecordBody → Nat
  | .data .write _ _ _ => 1
  | .data .sync _ _ _ => 2
  | .beginMark _ _ => 3
  | .endMark => 4
  | .handoverMark _ => 5

/-- Lane masks packed two to a byte: word 2k in bits 3–0 of byte k, word 2k + 1 in bits 7–4 (11.2). -/
def maskBytes : List DataWord → List Byte
  | [] => []
  | [w] => [0#4 ++ w.mask]
  | w₀ :: w₁ :: rest => (w₁.mask ++ w₀.mask) :: maskBytes rest

/-- The three bytes of a start address (11.2). -/
def addrBytes (a : WordAddr) : List Byte :=
  let x : BitVec 24 := a ++ 0#2
  [x.extractLsb' 16 8, x.extractLsb' 8 8, x.extractLsb' 0 8]

/-- The kind-specific fields of a record (11.2). -/
def bodyBytes : RecordBody → List Byte
  | .data _ region start words =>
      [BitVec.ofNat 8 region.toNat] ++ addrBytes start ++ [BitVec.ofNat 8 words.length]
        ++ maskBytes words ++ words.flatMap fun w => wordBytes w.data
  | .beginMark epoch scope => halfBytes epoch ++ [BitVec.ofNat 8 (scopeCode scope)]
  | .endMark => []
  | .handoverMark epoch => halfBytes epoch

/-- The payload of a frame (11.2). -/
def framePayload : Frame → List Byte
  | .hello h =>
      [BitVec.ofNat 8 (roleCode h.role),
        flagsByte h.seen h.streamOpen h.epoch.isSome h.consistency]
        ++ halfBytes h.digest ++ halfBytes (epochField h.epoch) ++ halfBytes h.seqA ++ halfBytes h.seqB
  | .pulse p =>
      [BitVec.ofNat 8 (roleCode p.role), flagsByte false false p.epoch.isSome p.consistency]
        ++ halfBytes (epochField p.epoch) ++ halfBytes p.seq
  | .record seq body => halfBytes seq ++ [BitVec.ofNat 8 (kindCode body)] ++ bodyBytes body
  | .ack seq => halfBytes seq
  | .nak seq => halfBytes seq

/-- The CRC of a frame: over the type code and the payload (R56). -/
def frameCrc (f : Frame) : Half := crc16 (sofCode (frameType f) :: framePayload f)

/-- The characters of a frame in order: start-of-frame, payload, the CRC high byte first, EOF (R55). -/
def frameCharacters (f : Frame) : List (BitVec 12) :=
  [characterBits true (sofCode (frameType f))]
    ++ (framePayload f ++ halfBytes (frameCrc f)).map (characterBits false)
    ++ [characterBits true eofCode]

/-- The characters that are still to come on the send pair once the one on the line is complete: of a frame all
of them, of a frame cut off one ABORT in place of its rest, of a free serializer none (R50, R64, R69, R198; log 9).
A frame on the send pair is here whole, since how far it has got is not held (log 20). -/
def serializerCharacters : Serializer → List (BitVec 12)
  | .free => []
  | .sending f => frameCharacters f
  | .aborting => [characterBits true abortCode]

/-- What the unit has to send on the send pair (R198). -/
def sendPair (s : State) : List (BitVec 12) := serializerCharacters s.tx.serializer

/-! ### Frame payloads, receiving (R61) -/

/-- The lane masks in the mask bytes, in word order (11.2). -/
def masksOf : List Byte → List LaneMask
  | [] => []
  | b :: rest => b.extractLsb' 0 4 :: b.extractLsb' 4 4 :: masksOf rest

/-- The data words in the data bytes (11.2). -/
def wordsOf : List Byte → List Word
  | b3 :: b2 :: b1 :: b0 :: rest => wordOf b3 b2 b1 b0 :: wordsOf rest
  | _ => []

/-- The WRITE or SYNC fields behind the kind byte, checked as R61 lists: word count, region index,
alignment, end of the address space, length, and for SYNC sixteen words with full masks. R61 names no outcome
for a frame that fails one of its 'Record fields' conditions only: the model's choice is that it is not well
formed, so bad (log 30). -/
def parseData (kind : DataKind) : List Byte → Option RecordBody
  | region :: a2 :: a1 :: a0 :: count :: rest =>
      let c := count.toNat
      let a : BitVec 24 := a2 ++ a1 ++ a0
      let start : WordAddr := a.extractLsb' 2 22
      let nMask := (c + 1) / 2
      let words := List.zipWith DataWord.mk ((masksOf (rest.take nMask)).take c) (wordsOf (rest.drop nMask))
      if 1 ≤ c ∧ c ≤ 16 ∧ region.toNat ≤ 15 ∧ a.extractLsb' 0 2 = 0#2
          ∧ start.byte + 4 * c ≤ Config.addressSpace ∧ rest.length = nMask + 4 * c
          ∧ (kind = .sync → c = 16 ∧ words.all fun w => w.mask == fullMask)
      then some (.data kind (region.extractLsb' 0 4) start words)
      else none
  | _ => none

/-- The fields of a record behind its sequence, by its kind code (R55, R61, 11.2). -/
def parseBody (kind : Byte) (rest : List Byte) : Option RecordBody :=
  match kind.toNat, rest with
  | 1, rest => parseData .write rest
  | 2, rest => parseData .sync rest
  | 3, [e1, e0, sc] => (scopeOfCode sc.toNat).map (RecordBody.beginMark (halfOf e1 e0))
  | 4, [] => some .endMark
  | 5, [e1, e0] => some (.handoverMark (halfOf e1 e0))
  | _, _ => none

/-- The epoch a HELLO or PULSE reports: ignored when epoch present is clear (R57). -/
def epochOf (present : Bool) (e1 e0 : Byte) : Option Half := if present then some (halfOf e1 e0) else none

/-- The frame of a payload, if it is well formed (R61). Zero positions are ignored (R199). -/
def parseFrame (t : FrameType) (payload : List Byte) : Option Frame :=
  match t, payload with
  | .hello, [r, f, d1, d0, e1, e0, a1, a0, b1, b0] =>
      match roleOfCode r.toNat, consistencyOfCode (f.extractLsb' 4 2).toNat with
      | some role, some c =>
          some (.hello {
            role := role, seen := f.getLsbD 0, streamOpen := f.getLsbD 1,
            epoch := epochOf (f.getLsbD 2) e1 e0, consistency := c, digest := halfOf d1 d0,
            seqA := halfOf a1 a0, seqB := halfOf b1 b0 })
      | _, _ => none
  | .pulse, [r, f, e1, e0, s1, s0] =>
      match roleOfCode r.toNat, consistencyOfCode (f.extractLsb' 4 2).toNat with
      | some role, some c =>
          some (.pulse { role := role, epoch := epochOf (f.getLsbD 2) e1 e0, consistency := c,
                         seq := halfOf s1 s0 })
      | _, _ => none
  | .record, s1 :: s0 :: kind :: rest => (parseBody kind rest).map (Frame.record (halfOf s1 s0))
  | .ack, [s1, s0] => some (.ack (halfOf s1 s0))
  | .nak, [s1, s0] => some (.nak (halfOf s1 s0))
  | _, _ => none

end Sys2Proof.Machine
end

