-- ==== Sys2Proof/Machine/Flags.lean ====
section
/-! DEFINITION. The event unit: flags, routes, the ALERT line and the start of a reflex
(chapter Events, Alert and Reflexes). -/

namespace Sys2Proof.Machine

/-- The position of an event in EVENT_FLAGS: its number less one (11.5). -/
def eventBit : Event → Nat
  | .linkUp => 0
  | .linkLost => 1
  | .roleConflict => 2
  | .digestMismatch => 3
  | .linkError => 4
  | .confirmFail => 5
  | .holdTimeout => 6
  | .spilled => 7
  | .resyncEnd => 8
  | .partnerInconsistent => 9
  | .guardHit => 10
  | .applyFault => 11
  | .roleChanged => 12
  | .loadEnd => 13
  | .commandEnd => 14

/-- The fifteen events in the order of their numbers. -/
def allEvents : List Event :=
  [.linkUp, .linkLost, .roleConflict, .digestMismatch, .linkError, .confirmFail, .holdTimeout,
    .spilled, .resyncEnd, .partnerInconsistent, .guardHit, .applyFault, .roleChanged, .loadEnd,
    .commandEnd]

/-- The code of an event's route in EVENT_ROUTES: bits 2n − 1 to 2n − 2 for event n (11.4). -/
def routeCode (routes : BitVec 30) (e : Event) : Nat := (routes.extractLsb' (2 * eventBit e) 2).toNat

/-- The route of an event (R160). -/
def routeOf (routes : BitVec 30) (e : Event) : Route :=
  match routeCode routes e with
  | 1 => .alert
  | 2 => .reflex
  | _ => .off

/-- Whether the flag of an event is set. -/
def flagSet (flags : BitVec 15) (e : Event) : Bool := flags.getLsbD (eventBit e)

/-- The condition of the ALERT line: at least one set flag whose route is ALERT (R161). -/
def alertCondition (flags : BitVec 15) (routes : BitVec 30) : Bool :=
  allEvents.any fun e => flagSet flags e && routeOf routes e == .alert

/-- Bring the ALERT line up to date (R161). -/
def updateAlert (s : State) : State :=
  { s with events := { s.events with alert := alertCondition s.events.flags s.cfg.routes } }

/-- Start the reflex of an event (R163): auto-promote on a STANDBY unit for LINK_LOST (R89), the
auto-resync request for PARTNER_INCONSISTENT (R164). No other event has a reflex (R160). -/
def startReflex (e : Event) (s : State) : State :=
  match e with
  | .linkLost =>
      if s.pair.role = .standby then
        { s with
          pair := { s.pair with promoteTimer := some (1000 * s.cfg.promoteDelay.toNat) }
          events := { s.events with autoPromote := .waiting } }
      else s
  | .partnerInconsistent =>
      { s with
        walker := { s.walker with autoRequest := true }
        events := { s.events with autoResync := .pending } }
  | _ => s

/-- The flags with one event's flag set. -/
def withFlag (flags : BitVec 15) (e : Event) : BitVec 15 := flags ||| (1#15 <<< eventBit e)

/-- Take an event (R157): set its flag, bring the ALERT line up to date, and start its reflex if it
is routed REFLEX. The raising block's other effects have been taken before. -/
def raise (e : Event) (s : State) : State :=
  let flagged := updateAlert { s with events := { s.events with flags := withFlag s.events.flags e } }
  if routeOf s.cfg.routes e = .reflex then startReflex e flagged else flagged

end Sys2Proof.Machine
end

