-- ==== Sys2Proof/Machine/Ops.lean ====
section
/-! DEFINITION. The operations that several steps share: the replay list, the confirm wait, the
reservation, the memory port's internal requester, the walker, discard, spill and resync start. -/

namespace Sys2Proof.Machine

/-! ### Views of the replay list (R23, R30) -/

/-- Entries occupied: records plus the reservation (R23). -/
def occupancy (l : ReplayList) : Nat := l.records.length + l.reserved.toNat

/-- Some entry is free (R13, R23). -/
def freeEntry (l : ReplayList) : Bool := occupancy l < Config.listEntries

/-- The record is SENT. -/
def isSent (r : Rec) : Bool := r.state == .sent

/-- The number of records in state SENT (R23). -/
def sentCount (l : ReplayList) : Nat := l.records.countP isSent

/-- The oldest record's sequence, or the next sequence when the list holds no record (R23). -/
def oldestSeq (l : ReplayList) : Half :=
  match l.records with
  | r :: _ => r.seq
  | [] => l.nextSeq

/-- The body is a WRITE record's. -/
def isWrite : RecordBody → Bool
  | .data .write _ _ _ => true
  | _ => false

/-- The body is a SYNC record's. -/
def isSync : RecordBody → Bool
  | .data .sync _ _ _ => true
  | _ => false

/-- A record's body with one more word at its end. -/
def appendWord (w : DataWord) : RecordBody → RecordBody
  | .data kind region start words => .data kind region start (words ++ [w])
  | other => other

/-- The word count of a record (R24). -/
def bodyWords : RecordBody → Nat
  | .data _ _ _ words => words.length
  | _ => 0

/-- The record is the OPEN WRITE record (R22, R25). -/
def isOpenWrite (r : Rec) : Bool := r.state == .opened && isWrite r.body

/-- The record is the OPEN SYNC record (R25). -/
def isOpenSync (r : Rec) : Bool := r.state == .opened && isSync r.body

/-- The walker fills a SYNC record (R124). -/
def fillsSync (l : ReplayList) : Bool := l.records.any isOpenSync

/-- The newest transmitted record's sequence + 1, or the oldest sequence when none has been
transmitted: the furthest acceptable acknowledgement (R33, R34). -/
def ackBound (l : ReplayList) : Half :=
  match l.records.reverse.find? fun r => r.transmitted with
  | some r => r.seq + 1#16
  | none => oldestSeq l

/-- Epoch and sequence of the HANDOVER record in a list of records, if there is one (R91). -/
def handoverIn (rs : List Rec) : Option (Half × Half) :=
  rs.findSome? fun r =>
    match r.body with
    | .handoverMark e => some (e, r.seq)
    | _ => none

/-! ### Changes of the replay list -/

/-- A record opens or is appended at the newest end with the next sequence, which rises by one
(R19, R26, R27). -/
def addRecord (body : RecordBody) (state : RecState) (waiter : Bool) (l : ReplayList) : ReplayList :=
  { l with
    records := l.records ++
      [{ seq := l.nextSeq, body := body, state := state, waiter := waiter, transmitted := false }]
    nextSeq := l.nextSeq + 1#16 }

/-- The open WRITE record becomes PENDING and its coalesce timer stops (R20). -/
def closeWrite (l : ReplayList) : ReplayList :=
  { l with
    records := l.records.map fun r => if isOpenWrite r then { r with state := .pending } else r
    coalesceTimer := none }

/-- Every SENT record returns to PENDING (R36, R38, R39). -/
def unsend (rs : List Rec) : List Rec :=
  rs.map fun r => if isSent r then { r with state := .pending } else r

/-- No record carries a confirm waiter any more (R148). -/
def clearWaiters (rs : List Rec) : List Rec := rs.map fun r => { r with waiter := false }

/-- The list with no record, its timers and counts as an emptied list has them (R44 step 5, R46).
The reservation, the hold timer and the next sequence are not touched. -/
def emptyList (l : ReplayList) : ReplayList :=
  { l with
    records := []
    waitingMarker := none
    coalesceTimer := none
    retryTimer := none
    retryCount := 0 }

/-- Drop the OPEN SYNC record: the records behind it in the list number one lower (R29). -/
def dropOpenSync : List Rec → List Rec
  | [] => []
  | r :: rest =>
      if isOpenSync r then rest.map fun x => { x with seq := x.seq - 1#16 }
      else r :: dropOpenSync rest

/-- Drop the open SYNC record and lower the next sequence, if there is one (R29). -/
def abandonSync (l : ReplayList) : ReplayList :=
  if fillsSync l then
    { l with records := dropOpenSync l.records, nextSeq := l.nextSeq - 1#16 }
  else l

/-! ### Host port -/

/-- A mirrored write: by the policy of its matching entry alone, whatever the role it was classified in (R3). -/
def isMirroredWrite (req : HostReq) (cls : HostClass) : Bool := req.kind == .write && cls.policy.mirrors

/-- A mirrored write classified on an ACTIVE unit, the only one that the capture unit acts on (R9, R15). -/
def isMirrored (req : HostReq) (cls : HostClass) : Bool := cls.role == .active && isMirroredWrite req cls

/-- A write waits for a replay list entry: the host path's waiting request (R28, R144). -/
def hostWaits (s : State) : Bool :=
  match s.host.port with
  | .held .list _ _ _ => true
  | _ => false

/-- Pass a response back; the host port returns to IDLE (R139). -/
def respond (r : HostResponse) (s : State) : State :=
  { s with host := { s.host with port := .idle, response := some r } }

/-- Hand the request to the memory port (R142). -/
def forward (req : HostReq) (cls : HostClass) (s : State) : State :=
  { s with host := { s.host with port := .forwarded req cls false } }

/-- End the confirm wait: timer stopped, waiter gone, response passed back (R148). -/
def endConfirmWait (r : HostResponse) (s : State) : State :=
  respond r
    { s with
      host := { s.host with confirmTimer := none }
      list := { s.list with records := clearWaiters s.list.records } }

/-- The host port withholds a response (R139). -/
def isWithheld (s : State) : Bool :=
  match s.host.port with
  | .withheld _ => true
  | _ => false

/-- A confirm wait, if there is one, ends with FAULT and CONFIRM_FAIL (R148). -/
def failConfirmWait (s : State) : State :=
  if isWithheld s then raise .confirmFail (endConfirmWait .fault s) else s

/-- Cancel the reservation, if one is held; a forwarded CONFIRM write is condemned by it and
CONFIRM_FAIL is raised for it (R14, R149). -/
def cancelReservation (s : State) : State :=
  if s.list.reserved then
    let s' := { s with list := { s.list with reserved := false } }
    match s.host.port with
    | .forwarded req cls false =>
        if isMirrored req cls && cls.policy == .confirm then
          raise .confirmFail { s' with host := { s'.host with port := .forwarded req cls true } }
        else s'
    | _ => s'
  else s

/-! ### Memory port -/

/-- A waiting internal request is withdrawn, an internal transaction in progress is disowned, and the
fairness count becomes 0 (R153). -/
def withdrawInternal (s : State) : State :=
  let bus := match s.mem.bus with
    | some (.internal op _) => some (.internal op true)
    | other => other
  { s with mem := { bus := bus, waiting := none, fairness := 0 } }

/-- A transaction of the internal requester is in progress, its answer awaited or to be discarded (R151, R153). -/
def internalBusy (m : MemPort) : Bool :=
  match m.bus with
  | some (.internal _ _) => true
  | _ => false

/-- The memory port when the internal requester needs this transaction. It asks only after the answer to its last, so
not while one, be it disowned, is in progress (R151): the need then stays with it, and `askAgain` asks for it at
that answer (log 36). -/
def requested (op : InternalOp) (m : MemPort) : MemPort :=
  if internalBusy m then m else { m with waiting := some op }

/-- The internal requester asks for its next transaction (R151). -/
def askInternal (op : InternalOp) (s : State) : State := { s with mem := requested op s.mem }

/-- The bus is free again (R151). -/
def freeBus (s : State) : State := { s with mem := { s.mem with bus := none } }

/-- The write of the next word of the held record (R105). -/
def wordWrite (h : HeldRecord) (w : DataWord) : InternalOp :=
  .applyWrite (wordAfter h.start h.next) w.mask w.data

/-- First word of the walker's current chunk (R126). -/
def chunkStart (w : Walker) : WordAddr := BitVec.ofNat 22 (chunkAddr w.cursor w.nextChunk / 4)

/-- The words the open SYNC record holds: the index of the next word to read (R124). -/
def syncWords (l : ReplayList) : Nat :=
  match l.records.find? isOpenSync with
  | some r => bodyWords r.body
  | none => 0

/-- The transaction that the internal requester of the role needs next: the apply engine's word of its held record, or
the walker's word of its open SYNC record; role NONE has no internal requester (R105, R127, R151). -/
def neededOp (s : State) : Option InternalOp :=
  match s.pair.role with
  | .standby => s.apply.held.bind fun h => (h.words[h.next]?).map (wordWrite h)
  | .active =>
      if fillsSync s.list then some (.walkerRead (wordAfter (chunkStart s.walker) (syncWords s.list))) else none
  | .none => none

/-- The internal requester asks for what it needs, if it needs anything (R151). -/
def askAgain (s : State) : State :=
  { s with mem := (neededOp s).elim s.mem fun op => requested op s.mem }

/-- The answer of a disowned transaction is discarded; a requester that has waited for it asks now (R151, R153). -/
def discardAnswer (s : State) : State := askAgain (freeBus s)

/-! ### Dirty map -/

/-- Mark a block: the marks stay in rising order, and a marked block stays marked once (R115). -/
def markBlock (b : Nat) : List Nat → List Nat
  | [] => [b]
  | x :: rest =>
      if b < x then b :: x :: rest
      else if b = x then x :: rest
      else x :: markBlock b rest

/-- The blocks a record covers: those of its words, and a SYNC record's chunk (R24, R44). -/
def recordBlocks (r : Rec) : List Nat :=
  match r.body with
  | .data .write _ start words => (List.range words.length).map fun i => blockOf (wordAfter start i)
  | .data .sync _ start _ => [blockOf start]
  | _ => []

/-- Every mirrored block marked, the marks already set staying set (R122). -/
def fullMarking (table : Vector RegionEntry 16) (marks : List Nat) : List Nat :=
  (List.range Config.blocks).filter fun b => marks.contains b || mirroredBlock table b

/-! ### Requests for entries (R28)

HOLD_RESERVED, MARKER_APPEND and WALKER_OPEN_SYNC are the steps that serve the waiting requesters (log 32). -/

/-- A marker may take an entry: one is free beyond the one the host path waits for (R28). -/
def markerMayTake (s : State) : Bool :=
  occupancy s.list + (hostWaits s).toNat < Config.listEntries

/-- The walker may take an entry: one is free beyond those the host path and a marker wait for (R28). -/
def walkerMayTake (s : State) : Bool :=
  occupancy s.list + (hostWaits s).toNat + s.list.waitingMarker.isSome.toNat < Config.listEntries

/-- Append a marker, PENDING, if an entry is there for it; otherwise it waits (R27). -/
def askMarker (body : RecordBody) (s : State) : State :=
  if markerMayTake s then { s with list := addRecord body .pending false s.list }
  else { s with list := { s.list with waitingMarker := some body } }

/-! ### Walker -/

/-- The walker stops, keeping its cursor; no block is taken any more (R44, R130, R131; log 11). -/
def stopWalker (s : State) : State :=
  withdrawInternal
    { s with walker := { s.walker with run := .stopped, pauseDue := false, taken := false } }

/-- A RUNNING walker pauses: at once, or when the open SYNC record closes (R124). -/
def pauseWalker (s : State) : State :=
  if s.walker.run = .running then
    if fillsSync s.list then { s with walker := { s.walker with pauseDue := true } }
    else { s with walker := { s.walker with run := .paused } }
  else s

/-- The index of the first mirrored chunk of block `b` from index `k` on; 64 if there is none (R126). -/
def nextMirrored (table : Vector RegionEntry 16) (b k : Nat) : Nat :=
  ((List.range Config.chunksPerBlock).find? fun i => k ≤ i && mirroredChunk table b i).getD
    Config.chunksPerBlock

/-- The current block is finished: no block taken, the cursor one further (R128). -/
def finishBlock (w : Walker) : Walker :=
  { w with taken := false, cursor := w.cursor + 1, nextChunk := 0 }

/-- A RUNNING walker with a block taken passes over chunks that are not mirrored, and finishes the
block when chunk 63 has been passed (R126, R128). -/
def walkerGoOn (s : State) : State :=
  if s.walker.run = .running && s.walker.taken then
    let k := nextMirrored s.cfg.regions s.walker.cursor s.walker.nextChunk
    if k < Config.chunksPerBlock then { s with walker := { s.walker with nextChunk := k } }
    else { s with walker := finishBlock s.walker }
  else s

/-- The walker returns to RUNNING at a resume and goes on from its chunk (R85, R124). -/
def resumeWalker (s : State) : State :=
  if s.walker.run = .paused then
    walkerGoOn { s with walker := { s.walker with run := .running, pauseDue := false } }
  else { s with walker := { s.walker with pauseDue := false } }

/-! ### Discard, resync start, spill -/

/-- A discard empties the list without marking (R46). The reservation is kept at the start of a FULL
resync and cancelled otherwise. -/
def discard (keepReservation : Bool) (s : State) : State :=
  let failed := failConfirmWait s
  let emptied := { failed with list := emptyList failed.list }
  if keepReservation then emptied else cancelReservation emptied

/-- The link is UP and the partner view reports role STANDBY. -/
def upWithStandby (s : State) : Bool :=
  s.pair.link == .up && s.pair.partner.role == .standby

/-- The scope of a resync (R120): PARTIAL when the basis is valid and the partner holds the basis epoch. -/
def resyncScope (s : State) : Scope :=
  if s.stream.basisValid && s.pair.partner.epoch == some s.stream.basisEpoch then .partialScope else .full

/-- Step 4 of a resync start for scope FULL: discard if the list holds a record, and mark every
mirrored block (R121, R122). -/
def beginFull (s : State) : State :=
  let s' := if s.list.records.isEmpty then s else discard true s
  { s' with dirty := fullMarking s'.cfg.regions s'.dirty }

/-- A resync start, taken whole in the order of R121. The requests of the walker for an entry that step 6
withdraws are that of a SYNC record and that of an END that still waits (R28, R121; log 31). -/
def resyncStart (s : State) : State :=
  let scope := resyncScope s
  let epoch := s.stream.epoch + 1#16
  let s₂ := { s with stream := { s.stream with epoch := epoch, isOpen := true } }
  let s₃ := if s.stream.mode = .resync then s₂ else { s₂ with list := closeWrite s₂.list }
  let s₄ := if scope = .full then beginFull s₃ else s₃
  let s₆ := withdrawInternal
    { s₄ with
      stream := { s₄.stream with basisValid := false, mode := .resync }
      list := { s₄.list with waitingMarker := none } }
  askMarker (.beginMark epoch scope)
    { s₆ with walker := { s₆.walker with
        run := if upWithStandby s then .running else .paused
        pauseDue := false, cursor := 0, taken := false, nextChunk := 0
        outcome := .running, scope := scope, epoch := epoch } }

/-- The blocks a spill marks: those the list's records cover and the walker's current block (R44). -/
def spillMarks (s : State) : List Nat :=
  let covered := s.list.records.flatMap recordBlocks
  let all := if s.walker.taken then s.walker.cursor :: covered else covered
  all.foldl (fun marks b => markBlock b marks) s.dirty

/-- A spill's own effects (R44, R133), without the resync start that may follow it. -/
def spillCore (s : State) : State :=
  let interrupted := s.stream.mode = .resync
  let s₁ := stopWalker
    { s with
      dirty := spillMarks s
      stream := { s.stream with mode := .tracking, basisEpoch := s.stream.epoch, basisValid := true } }
  let s₂ := if interrupted then { s₁ with walker := { s₁.walker with outcome := .interrupted } } else s₁
  raise .spilled (discard false s₂)

/-- The resync start that follows a spill when the link is UP with a STANDBY partner (R45, R118). -/
def resyncAfterSpill (s : State) : State := if upWithStandby s then resyncStart s else s

/-- A spill and the resync start it causes (R44, R45). -/
def spill (s : State) : State := resyncAfterSpill (spillCore s)

/-! ### Ends of a resync -/

/-- The END of the resync in progress has been acknowledged (R131). -/
def resyncComplete (s : State) : State :=
  let s₁ := stopWalker
    { s with
      stream := { s.stream with mode := .normal }
      list := closeWrite s.list }
  raise .resyncEnd { s₁ with walker := { s₁.walker with outcome := .complete } }

/-- A walker read was answered FAULT (R130). -/
def resyncAbandon (s : State) : State :=
  let s₁ :=
    { s with
      list := closeWrite (abandonSync s.list)
      stream := { s.stream with mode := .normal }
      dirty := if s.walker.taken then markBlock s.walker.cursor s.dirty else s.dirty }
  let s₂ := stopWalker s₁
  raise .resyncEnd { s₂ with walker := { s₂.walker with outcome := .failed } }

/-! ### Acknowledgement request of the apply engine (R67) -/

/-- Ask for an ACK: NONE becomes ACK. -/
def askAck (s : State) : State :=
  match s.tx.ackRequest with
  | .none => { s with tx := { s.tx with ackRequest := .ack } }
  | _ => s

/-- Ask for a NAK: NONE or ACK becomes NAK. -/
def askNak (s : State) : State := { s with tx := { s.tx with ackRequest := .nak } }

/-! ### Command slot -/

/-- A HANDOVER is IN_PROGRESS (R183). -/
def handoverRunning (s : State) : Bool :=
  s.mgmt.result.command == some .handover && s.mgmt.result.state == .inProgress

/-- A command ends: its result is set, then COMMAND_END is raised (R178). -/
def endCommand (state : CmdState) (reason : Reason) (detail : Detail) (s : State) : State :=
  raise .commandEnd
    { s with mgmt := { s.mgmt with result :=
        { s.mgmt.result with state := state, reason := reason, detail := detail } } }

/-- The auto-promote reflex is cancelled if its timer runs (R89). -/
def cancelPromote (s : State) : State :=
  if s.pair.promoteTimer.isSome then
    { s with
      pair := { s.pair with promoteTimer := none }
      events := { s.events with autoPromote := .cancelled } }
  else s

end Sys2Proof.Machine
end

