-- ==== Sys2Proof/Machine/Links.lean ====
section
/-! DEFINITION. Roles, link states and the handover's ends: the operations of the pairing controller
that several steps share (chapter Pairing, Roles and Handover), with the replay list's answers to
acknowledgements, which may end a resync or a handover. -/

namespace Sys2Proof.Machine

/-! ### Link states (R76, R77, R82) -/

/-- The HELLO interval timer at entry into a state that is not UP: started from OFF or UP with the
interval in force, running on otherwise, stopped in OFF (R77). -/
def helloTimerAt (new : LinkState) (s : State) : Timer :=
  match new, s.pair.link with
  | .off, _ => none
  | _, .off => some s.cfg.helloInterval.toNat
  | _, .up => some s.cfg.helloInterval.toNat
  | _, _ => s.pair.helloTimer

/-- The loss timer at entry into a state that is not UP: stopped in OFF and DOWN, started at
HANDSHAKE if it is not running, left alone otherwise (R78, R82). -/
def lossTimerAt (new : LinkState) (s : State) : Timer :=
  match new with
  | .off => none
  | .down => none
  | .handshake => some (s.pair.lossTimer.getD s.cfg.lossTimeout.toNat)
  | _ => s.pair.lossTimer

/-- Enter a link state other than UP: a HELLO is made due, but in OFF (R77). -/
def enterLink (new : LinkState) (s : State) : State :=
  { s with
    pair := { s.pair with
      link := new, helloTimer := helloTimerAt new s, lossTimer := lossTimerAt new s }
    tx := { s.tx with helloDue := new != .off } }

/-- Leaving UP, without what a handover makes of it: the retry timer and count, the pulse timer, the
walker and the confirm wait (R39, R66, R81). -/
def leaveUpCore (new : LinkState) (s : State) : State :=
  if s.pair.link = .up then
    let quiet :=
      { s with
        list := { s.list with retryTimer := none, retryCount := 0 }
        tx := { s.tx with pulseTimer := none, pulseDue := false } }
    enterLink new (failConfirmWait (pauseWalker quiet))
  else s

/-! ### Changes of role (R74) -/

/-- The walker and the auto-resync request of a unit that leaves ACTIVE: stopped, a resync in
progress interrupted and its position reset (R135), the request withdrawn (R164). -/
def retiredWalker (mode : StreamMode) (w : Walker) : Walker :=
  { w with
    run := .stopped, pauseDue := false, taken := false, nextChunk := 0, autoRequest := false
    cursor := if mode = .resync then 0 else w.cursor
    outcome := if mode = .resync then .interrupted else w.outcome }

/-- What a unit gives up as it leaves ACTIVE: its list, its map and its walker (R74, R135, R164). -/
def leaveActive (s : State) : State :=
  let emptied := discard false s
  { emptied with
    dirty := []
    walker := retiredWalker emptied.stream.mode emptied.walker
    events := { emptied.events with
      autoResync := if emptied.walker.autoRequest then .noEffect else emptied.events.autoResync } }

/-- What a unit gives up as it leaves its role: an active unit its stream, a standby its
acknowledgement request (R67, R74); the standby state is renewed by `enterRole`. -/
def leaveRole (s : State) : State :=
  match s.pair.role with
  | .active => leaveActive s
  | .standby => { s with tx := { s.tx with ackRequest := .none } }
  | .none => s

/-- Take a role with a closed stream and a fresh standby state (R75, R98); the epoch counter, the
next sequence and the last apply fault are kept (R26, R113). -/
def enterRole (new : Role) (s : State) : State :=
  { s with
    pair := { s.pair with role := new }
    stream := { s.stream with mode := .closed, isOpen := false, basisValid := false }
    apply := { ApplyEngine.reset with lastFault := s.apply.lastFault } }

/-- The link at a change of role (R74). -/
def roleLink (s : State) : State :=
  match s.pair.link with
  | .up => leaveUpCore .handshake s
  | .conflict => enterLink .handshake s
  | .mismatch => enterLink .handshake s
  | .down => { s with tx := { s.tx with helloDue := true } }
  | .handshake => { s with tx := { s.tx with helloDue := true } }
  | .off => s

/-- A change of role with all its effects (R74, R89, R153), ROLE_CHANGED last. -/
def changeRole (new : Role) (s : State) : State :=
  raise .roleChanged (roleLink (enterRole new (withdrawInternal (cancelPromote (leaveRole s)))))

/-- The epoch counter a STANDBY unit promotes with: the held epoch, if one is held (R86). -/
def promote (s : State) : State :=
  changeRole .active
    { s with stream := { s.stream with epoch := s.apply.heldEpoch.getD s.stream.epoch } }

/-- A unit with a handover pending takes the role ACTIVE (R93, R108). -/
def takeHandoverRole (s : State) : State :=
  match s.apply.handoverPending with
  | some (epoch, seq) =>
      let t := changeRole .active s
      { t with
        stream := { mode := .normal, isOpen := true, epoch := epoch,
                    basisEpoch := t.stream.basisEpoch, basisValid := false }
        list := { t.list with nextSeq := seq + 1#16 } }
  | none => s

/-! ### Ends of a handover on the old active -/

/-- Completion of a handover: the unit becomes a CONSISTENT standby of the new epoch (R92). -/
def handoverComplete (outcome : Detail) (epoch seq : Half) (s : State) : State :=
  let t := changeRole .standby s
  endCommand .done .none outcome
    { t with
      pair := { t.pair with drainTimer := none }
      stream := { t.stream with epoch := epoch }
      apply := { t.apply with
        consistency := .consistent, heldEpoch := some epoch, expected := seq + 1#16 } }

/-- The list without its HANDOVER record at the newest end; the next sequence falls by one (R94). -/
def dropHandover (l : ReplayList) : ReplayList :=
  if (handoverIn l.records).isSome then
    { l with records := l.records.dropLast, nextSeq := l.nextSeq - 1#16 }
  else l

/-- Cancellation of a handover: mode NORMAL, a marked HANDOVER record removed, the command REFUSED
with the phase it ended in as detail (R91, R94, R183). -/
def handoverCancel (reason : Reason) (s : State) : State :=
  endCommand .refused reason s.mgmt.result.detail
    { s with
      stream := { s.stream with mode := .normal }
      list := dropHandover s.list
      pair := { s.pair with drainTimer := none } }

/-- What the departure from UP makes of a running handover (R94). -/
def handoverOffUp (s : State) : State :=
  if handoverRunning s then
    match s.mgmt.result.detail, handoverIn s.list.records with
    | .committed, some (epoch, seq) => handoverComplete .unconfirmed epoch seq s
    | _, _ => handoverCancel .linkLost s
  else s

/-- The link leaves UP for another state (R81); in any other state nothing changes. -/
def leaveUp (new : LinkState) (s : State) : State :=
  if s.pair.link = .up then handoverOffUp (takeHandoverRole (leaveUpCore new s)) else s

/-- A protocol fault returns the link to HANDSHAKE (R34). -/
def protocolFault (s : State) : State := leaveUp .handshake s

/-! ### Answers of the partner (R33 to R36) -/

/-- The list once the records of `removed` are gone from its oldest end, as ACK progress leaves it:
retry count 0, the retry timer restarted if a record is still SENT (R33, R37). -/
def trimmedList (s : State) (removed kept : List Rec) : ReplayList :=
  if removed.isEmpty then s.list
  else
    { s.list with
      records := kept
      retryCount := 0
      retryTimer :=
        if s.pair.link = .up && kept.any isSent then some s.cfg.retryTimeout.toNat else none
      coalesceTimer := if kept.any isOpenWrite then s.list.coalesceTimer else none }

/-- A removed END ends the resync in progress (R27, R131). -/
def reportEnd (removed : List Rec) (s : State) : State :=
  if s.stream.mode = .resync && removed.any (fun r => r.body == .endMark) then resyncComplete s else s

/-- A removed HANDOVER completes the handover (R27, R92). -/
def reportHandover (removed : List Rec) (s : State) : State :=
  match handoverIn removed with
  | some (epoch, seq) => if handoverRunning s then handoverComplete .confirmed epoch seq s else s
  | none => s

/-- Every record behind `n` is removed from the oldest end: waiters end with OK, removed markers are
reported (R33). -/
def removeBehind (n : Half) (s : State) : State :=
  let removed := s.list.records.takeWhile fun r => behind r.seq n
  let kept := s.list.records.dropWhile fun r => behind r.seq n
  let trimmed := { s with list := trimmedList s removed kept }
  let answered :=
    if removed.any (fun r => r.waiter) && isWithheld s then endConfirmWait .writeOk trimmed else trimmed
  reportHandover removed (reportEnd removed answered)

/-- The conditions under which the list acts on an ACK or NAK (R33). -/
def takesAcks (s : State) : Bool :=
  s.pair.role == .active && s.pair.link == .up
    && (s.stream.mode == .normal || s.stream.mode == .resync || s.stream.mode == .draining)

/-- The list takes ACK(n) (R33, R34; log 7). -/
def takeAck (n : Half) (s : State) : State :=
  if takesAcks s then
    if atOrBehind n (oldestSeq s.list) then s
    else if atOrBehind n (ackBound s.list) then removeBehind n s
    else protocolFault s
  else s

/-- Every SENT record returns to PENDING, so the retry timer stops (R36, R37, R85). -/
def returnSent (s : State) : State :=
  { s with list := { s.list with records := unsend s.list.records, retryTimer := none } }

/-- The list takes NAK(n) (R36; log 7). -/
def takeNak (n : Half) (s : State) : State :=
  if takesAcks s then
    if behind n (oldestSeq s.list) then s
    else if n == oldestSeq s.list && !s.list.records.any (fun r => r.transmitted) then s
    else if atOrBehind n (ackBound s.list) then returnSent (removeBehind n s)
    else protocolFault s
  else s

/-! ### Entering UP (R79, R85) -/

/-- Whether the resume decision finds resume possible (R85). -/
def canResume (s : State) : Bool :=
  s.stream.isOpen && (s.stream.mode == .normal || s.stream.mode == .resync)
    && s.pair.partner.epoch == some s.stream.epoch
    && inSpan (oldestSeq s.list) s.list.nextSeq s.pair.partner.seq

/-- Resume at the partner's sequence, or a resync start (R85). DESIGN CHOICE: a resume that removes the END of the
resync in progress completes that resync, as an ACK that removes it does (R33, R131; log 33). -/
def resumeDecision (s : State) : State :=
  if canResume s then resumeWalker (returnSent (removeBehind s.pair.partner.seq s)) else resyncStart s

/-- The link enters UP, LINK_UP raised last (R66, R77, R79, R89, R103). Where no resume decision is taken the
retry timer stays stopped, whatever records are still SENT: the model's choice (R37; log 29). -/
def enterUp (s : State) : State :=
  let c := cancelPromote s
  let up :=
    { c with
      pair := { c.pair with link := .up, helloTimer := none }
      tx := { c.tx with helloDue := false, pulseTimer := some c.cfg.pulseInterval.toNat }
      apply := { c.apply with gap := false } }
  let decided :=
    if up.pair.role == .active && up.pair.partner.role == .standby then resumeDecision up else up
  raise .linkUp decided

/-- What the checks of R79 give for a partner's digest and role. -/
def judgePartner (digest : Half) (role : Role) (s : State) : LinkState :=
  if digest != regionDigest s.cfg.regions then .mismatch
  else if role == .active && s.pair.role == .active then .conflict
  else .up

/-- A checked HELLO takes the link to MISMATCH, CONFLICT or UP; a check that leaves the link as it was
does nothing (R79). -/
def checkHandshake (digest : Half) (role : Role) (s : State) : State :=
  match judgePartner digest role s with
  | .mismatch =>
      if s.pair.link = .mismatch then s else raise .digestMismatch (enterLink .mismatch s)
  | .conflict =>
      if s.pair.link = .conflict then s else raise .roleConflict (enterLink .conflict s)
  | _ => enterUp s

/-! ### Link enable (R69, R70) -/

/-- The serializer when its frame is cut off: an ABORT follows the character on the line (R69). -/
def cutOff : Serializer → Serializer
  | .sending _ => .aborting
  | other => other

/-- The receiver, assembler and buffer at an enable, a disable or a reset; the counters stay (R70). -/
def clearedRx (receiver : Receiver) (rx : LinkRx) : LinkRx :=
  { rx with receiver := receiver, assembler := .hunt, buffer := [] }

/-- The link's part in a disable: OFF from any state, with the effects of leaving UP from UP (R81). -/
def linkOff (s : State) : State :=
  if s.pair.link = .up then leaveUp .off s else enterLink .off s

/-- Link enable is cleared (R70). -/
def disableLink (s : State) : State :=
  let t := takeHandoverRole (linkOff
    { s with tx := { s.tx with serializer := cutOff s.tx.serializer } })
  { t with
    tx := { t.tx with helloDue := false, ackRequest := .none, pulseDue := false, pulseTimer := none }
    rx := clearedRx .notWatching t.rx
    pair := { t.pair with partner := PartnerView.cleared } }

/-- Link enable is set (R70). -/
def enableLink (s : State) : State :=
  enterLink .down { s with rx := clearedRx .hunting s.rx }

/-- The link follows a change of LINK_CONTROL from the values it held before (R70, R192). -/
def followLinkControl (oldEnable : Bool) (oldRate : LinkRate) (s : State) : State :=
  match oldEnable, s.cfg.linkEnable with
  | false, true => enableLink s
  | true, false => disableLink s
  | true, true => if oldRate = s.cfg.linkRate then s else enableLink (disableLink s)
  | false, false => s

end Sys2Proof.Machine
end

