-- ==== Sys2Proof/Machine/Hosting.lean ====
section
/-! DEFINITION. The life of a host request that several steps share: classification, reservation,
holds, refusal, and the end of a hold (chapters Host Port and Memory Port, The Replay List). -/

namespace Sys2Proof.Machine

/-- The outcome of classifying a request now (R3, R140). -/
def classify (req : HostReq) (s : State) : HostClass where
  role := s.pair.role
  region := regionIndexAt s.cfg.regions req.addr.byte
  policy := policyAt s.cfg.regions req.addr.byte

/-- A guard refusal (R141). -/
def refuse (req : HostReq) (s : State) : State :=
  respond .fault
    (raise .guardHit { s with host := { s.host with lastGuardAddr := req.addr } })

/-- A write is held before forwarding (R139, R144). -/
def holdPort (hold : HoldKind) (req : HostReq) (cls : HostClass) (counted : Bool) (s : State) : State :=
  { s with host := { s.host with port := .held hold req cls counted } }

/-- A write begins a LIST hold: the hold timer starts, and HOLDS counts the write once (R40, R47, R144). -/
def beginListHold (req : HostReq) (cls : HostClass) (counted : Bool) (s : State) : State :=
  holdPort .list req cls true
    { s with list := { s.list with
        holdTimer := some s.cfg.holdTimeout.toNat
        holds := if counted then s.list.holds else countUp s.list.holds } }

/-- An entry is reserved for the host path and the write is forwarded (R13, R41, R142). -/
def reserveAndForward (req : HostReq) (cls : HostClass) (s : State) : State :=
  forward req cls { s with list := { s.list with reserved := true, holdTimer := none } }

/-- The link state in which a write without an entry is held rather than spilled for (R40). -/
def holdsAllowed (s : State) : Bool := s.pair.link == .up || s.pair.link == .handshake

/-- A mirrored write asks the list for a reservation (R13, R40). A spill here finds the link neither
UP nor in HANDSHAKE, so it leaves mode TRACKING and the write is forwarded (R45). -/
def askReservation (req : HostReq) (counted : Bool) (s : State) : State :=
  if freeEntry s.list then reserveAndForward req (classify req s) s
  else if holdsAllowed s then beginListHold req (classify req s) counted s
  else
    let t := spill s
    forward req (classify req t) t

/-- A mirrored write classified on an ACTIVE unit, by the stream mode (R10, R140). -/
def acceptMirrored (req : HostReq) (counted : Bool) (s : State) : State :=
  match s.stream.mode with
  | .closed => forward req (classify req s) s
  | .tracking => forward req (classify req s) s
  | .normal => askReservation req counted s
  | .resync => askReservation req counted s
  | .draining => holdPort .drain req (classify req s) counted s

/-- A request is classified, and forwarded, held or refused (R140). `counted`: the write is counted in
HOLDS already (R144). -/
def acceptRequest (req : HostReq) (counted : Bool) (s : State) : State :=
  match req.kind, s.pair.role with
  | .read, _ => forward req (classify req s) s
  | .write, .none => forward req (classify req s) s
  | .write, .standby =>
      if guardAt s.cfg.regions req.addr.byte = .guarded then refuse req s
      else forward req (classify req s) s
  | .write, .active =>
      if (policyAt s.cfg.regions req.addr.byte).mirrors then acceptMirrored req counted s
      else forward req (classify req s) s

/-- A held write is classified again (R146). -/
def reclassify (req : HostReq) (counted : Bool) (s : State) : State :=
  acceptRequest req counted { s with list := { s.list with holdTimer := none } }

/-- What a step leaves of a held write: the hold stands while its reason does; a LIST hold whose link
is neither UP nor in HANDSHAKE spills; any other end classifies the write again (R43, R145, R146). -/
def settleHold (s : State) : State :=
  match s.host.port with
  | .held .list req _ counted =>
      if s.pair.role == .active && (s.stream.mode == .normal || s.stream.mode == .resync) then
        if holdsAllowed s then s else reclassify req counted (spill s)
      else reclassify req counted s
  | .held .drain req _ counted =>
      if s.pair.role == .active && s.stream.mode == .draining then s else reclassify req counted s
  | _ => s

end Sys2Proof.Machine
end

