-- ==== Sys2Proof/Machine/Scheduler.lean ====
section
/-! DEFINITION. The frame scheduler and the starts of frames (R30, R31, R57, R64 to R68), and the end of
a step: what the held write and the serializer become once a cause has been taken. -/

namespace Sys2Proof.Machine

/-! ### Fields of the frames the unit starts (R57) -/

/-- The epoch a HELLO or PULSE reports (R57). -/
def reportedEpoch (s : State) : Option Half :=
  match s.pair.role with
  | .active => some s.stream.epoch
  | .standby => s.apply.heldEpoch
  | .none => none

/-- The consistency a HELLO, a PULSE and the CONSISTENCY item report (R57, R98). -/
def reportedConsistency (s : State) : Consistency :=
  match s.pair.role with
  | .standby => s.apply.consistency
  | _ => .inconsistent

/-- Sequence A of a HELLO (R57). -/
def reportedSeqA (s : State) : Half :=
  match s.pair.role with
  | .standby => s.apply.expected
  | _ => s.list.nextSeq

/-- Sequence B of a HELLO and the sequence of a PULSE (R57). -/
def reportedSeqB (s : State) : Half :=
  match s.pair.role with
  | .standby => s.apply.expected
  | _ => oldestSeq s.list

/-- The seen flag of a HELLO (R77). -/
def helloSeen (link : LinkState) : Bool :=
  link == .handshake || link == .conflict || link == .mismatch

/-- The HELLO the unit starts now (R57, R65). -/
def helloNow (s : State) : Hello where
  role := s.pair.role
  seen := helloSeen s.pair.link
  streamOpen := s.pair.role == .active && s.stream.isOpen
  epoch := reportedEpoch s
  consistency := reportedConsistency s
  digest := regionDigest s.cfg.regions
  seqA := reportedSeqA s
  seqB := reportedSeqB s

/-- The PULSE the unit starts now (R57, R66). -/
def pulseNow (s : State) : Pulse where
  role := s.pair.role
  epoch := reportedEpoch s
  consistency := reportedConsistency s
  seq := reportedSeqB s

/-! ### What is ready (R30, R64, R67) -/

/-- The conditions under which the list offers records (R30). -/
def offersRecords (s : State) : Bool :=
  takesAcks s && s.pair.partner.role == .standby

/-- The record offered: the oldest that is not SENT, if it is PENDING and the window has room (R30). -/
def offeredRecord (s : State) : Option Rec :=
  if offersRecords s && decide (sentCount s.list < s.cfg.window.toNat) then
    (s.list.records.find? fun r => !isSent r).filter fun r => r.state == .pending
  else none

/-- An ACK or NAK is due (R67). -/
def ackReady (s : State) : Bool := s.pair.link == .up && s.tx.ackRequest != .none

/-- A PULSE is due and may be sent (R66). -/
def pulseReady (s : State) : Bool := s.pair.link == .up && s.tx.pulseDue

/-! ### Starts of frames -/

/-- A frame starts: the serializer holds its copy, the pulse timer stops and a due PULSE is withdrawn
or taken (R31, R66). -/
def startFrame (f : Frame) (s : State) : State :=
  { s with tx := { s.tx with serializer := .sending f, pulseDue := false, pulseTimer := none } }

/-- A due HELLO starts; the HELLO interval timer restarts (R65, R77). -/
def startHello (s : State) : State :=
  let t := startFrame (.hello (helloNow s)) s
  { t with
    tx := { t.tx with helloDue := false }
    pair := { t.pair with helloTimer := some t.cfg.helloInterval.toNat } }

/-- The ACK or NAK frame of the request (R67). -/
def ackFrame (s : State) : Frame :=
  match s.tx.ackRequest with
  | .nak => .nak s.apply.expected
  | _ => .ack s.apply.expected

/-- The requested ACK or NAK starts; with a handover pending the unit takes the role ACTIVE at this
start (R67, R93, R108). -/
def startAck (s : State) : State :=
  let t := startFrame (ackFrame s) s
  takeHandoverRole { t with tx := { t.tx with ackRequest := .none } }

/-- The first record that is not SENT becomes SENT and transmitted (R31). -/
def sendFirst : List Rec → List Rec
  | [] => []
  | r :: rest => if isSent r then r :: sendFirst rest
                 else { r with state := .sent, transmitted := true } :: rest

/-- The list as the start of record `r`'s frame leaves it: a resend counts and restarts the retry
timer, a first send starts it when nothing was SENT (R31, R37). -/
def sentList (r : Rec) (s : State) : ReplayList :=
  { s.list with
    records := sendFirst s.list.records
    retransmits := if r.transmitted then countUp s.list.retransmits else s.list.retransmits
    retryTimer :=
      if r.transmitted || sentCount s.list == 0 then some s.cfg.retryTimeout.toNat
      else s.list.retryTimer }

/-- The phase of a handover at the start of a RECORD frame: the HANDOVER record's first start commits
it (R91). -/
def committedBy (body : RecordBody) (s : State) : CmdResult :=
  match body with
  | .handoverMark _ =>
      if handoverRunning s then { s.mgmt.result with detail := .committed } else s.mgmt.result
  | _ => s.mgmt.result

/-- The offered record's RECORD frame starts (R31, R68). -/
def startRecord (r : Rec) (s : State) : State :=
  let t := startFrame (.record r.seq r.body) s
  { t with
    list := sentList r s
    mgmt := { t.mgmt with result := committedBy r.body s } }

/-- A due PULSE starts (R66). -/
def startPulse (s : State) : State := startFrame (.pulse (pulseNow s)) s

/-- The serializer is free and the unit may start a frame: it runs, and the link is not OFF (R69, R186). -/
def mayStart (s : State) : Bool :=
  s.phase == .running && s.pair.link != .off && s.tx.serializer == .free

/-- The scheduler starts the most preferred ready frame, if the serializer is free (R64). -/
def schedule (s : State) : State :=
  if mayStart s then
    if s.tx.helloDue then startHello s
    else if ackReady s then startAck s
    else
      match offeredRecord s with
      | some r => startRecord r s
      | none => if pulseReady s then startPulse s else s
  else s

/-- The end of a step: a held write whose hold has ended is settled, then the scheduler acts. Both are
part of the step whose effects bring them about (R64, R146). -/
def finish (s : State) : State := schedule (settleHold s)

end Sys2Proof.Machine
end

