-- ==== Sys2Proof/Machine/Items.lean ====
section
/-! DEFINITION. The item map (11.4): which items exist and may be written, how a configuration item's
value is judged (R5 to R7, R22, R32, R48, R51, R66, R95, R150, R160, R173), and what a read returns. -/

namespace Sys2Proof.Machine

/-! ### The map -/

/-- How an item may be written (11.4, access column). -/
inductive ItemKind where
  | readOnly
  | eventClear
  | command
  | config
  deriving DecidableEq, Repr

/-- The kind of the item a number names; an item number not in the table names no item (11.4). -/
def itemKind (item : Byte) : Option ItemKind :=
  let n := item.toNat
  if n = 0x00 ∨ n = 0x01 ∨ (0x10 ≤ n ∧ n ≤ 0x23) ∨ (0x28 ≤ n ∧ n ≤ 0x2C) ∨ n = 0x30 ∨ n = 0x51 then
    some .readOnly
  else if n = 0x31 then some .eventClear
  else if n = 0x50 then some .command
  else if n = 0x32 ∨ n = 0x38 ∨ (0x40 ≤ n ∧ n ≤ 0x4C) ∨ (0x60 ≤ n ∧ n ≤ 0x7F) then some .config
  else none

/-- The number of the span item of entry `n` (11.4). -/
def spanItem (n : BitVec 4) : Byte := BitVec.ofNat 8 (0x60 + 2 * n.toNat)

/-- The number of the mode item of entry `n` (11.4). -/
def modeItem (n : BitVec 4) : Byte := BitVec.ofNat 8 (0x61 + 2 * n.toNat)

/-- The region table entry a region item belongs to (11.4). -/
def itemEntry (item : Byte) : BitVec 4 := item.extractLsb' 1 4

/-- An entry of the region table. -/
def regionAt (table : Vector RegionEntry 16) (n : BitVec 4) : RegionEntry := table[n.toNat]'n.isLt

/-- The table with one entry replaced. -/
def setRegion (table : Vector RegionEntry 16) (n : BitVec 4) (e : RegionEntry) :
    Vector RegionEntry 16 := table.set n.toNat e n.isLt

/-! ### Judging a configuration item's value -/

/-- A value has ones only in the positions of `mask`: none in a zero position (R173). -/
def onlyIn (mask v : Word) : Bool := v &&& ~~~mask == 0#32

/-- A numeric setting: accepted from `lo` to `hi`, BAD_VALUE otherwise. -/
def ranged (lo hi : Nat) (v : Word) (cfg : Settings) : Except Access Settings :=
  if lo ≤ v.toNat ∧ v.toNat ≤ hi then .ok cfg else .error .badValue

/-- A write of LINK_CONTROL: the value is judged first, then a rate change while the link is enabled is
LOCKED, even if the write clears link enable (R51, R173). -/
def judgeLinkControl (cfg : Settings) (v : Word) : Except Access Settings :=
  if onlyIn 0x31#32 v then
    match rateOfCode (v.extractLsb' 4 2).toNat with
    | some rate =>
        if cfg.linkEnable && rate != cfg.linkRate then .error .locked
        else .ok { cfg with linkEnable := v.getLsbD 0, linkRate := rate }
    | none => .error .badValue
  else .error .badValue

/-- A code that EVENT_ROUTES takes for an event: OFF and ALERT, and REFLEX for the two events that have
a reflex (R160, R202). -/
def routeAllowed (routes : BitVec 30) (e : Event) : Bool :=
  let code := routeCode routes e
  code ≤ 1 || (code == 2 && (e == .linkLost || e == .partnerInconsistent))

/-- A write of EVENT_ROUTES is checked as a whole (R160). -/
def judgeRoutes (cfg : Settings) (v : Word) : Except Access Settings :=
  let routes : BitVec 30 := v.extractLsb' 0 30
  if onlyIn 0x3FFFFFFF#32 v && allEvents.all (routeAllowed routes) then .ok { cfg with routes := routes }
  else .error .badValue

/-- The configuration with one region table entry replaced. -/
def withRegion (cfg : Settings) (n : BitVec 4) (e : RegionEntry) : Settings :=
  { cfg with regions := setRegion cfg.regions n e }

/-- A write of a span item: granule number plus granule count at most 65,536 (R5, R201). -/
def judgeSpan (cfg : Settings) (n : BitVec 4) (v : Word) : Except Access Settings :=
  let base : BitVec 16 := v.extractLsb' 16 16
  let less : BitVec 16 := v.extractLsb' 0 16
  if base.toNat + (less.toNat + 1) ≤ 65536 then
    .ok (withRegion cfg n { regionAt cfg.regions n with base := base, countLess1 := less })
  else .error .badValue

/-- A write of a mode item (R6). -/
def judgeMode (cfg : Settings) (n : BitVec 4) (v : Word) : Except Access Settings :=
  if onlyIn 0x131#32 v then
    match policyOfCode (v.extractLsb' 4 2).toNat with
    | some policy =>
        .ok (withRegion cfg n { regionAt cfg.regions n with
          enabled := v.getLsbD 0, policy := policy, guard := guardOfBit (v.getLsbD 8) })
    | none => .error .badValue
  else .error .badValue

/-- START_ROLE takes a role code (R95). -/
def judgeStartRole (cfg : Settings) (v : Word) : Except Access Settings :=
  match roleOfCode v.toNat with
  | some role => .ok { cfg with startRole := role }
  | none => .error .badValue

/-- A role condition that comes before the value check: LOCKED unless the role is NONE (R7, R32). -/
def inRoleNone (role : Role) (judged : Except Access Settings) : Except Access Settings :=
  if role = .none then judged else .error .locked

/-- The settings group, item by item (R22, R32, R48, R66, R95, R150). -/
def judgeSetting (role : Role) (cfg : Settings) (item : Byte) (v : Word) : Except Access Settings :=
  match item.toNat with
  | 0x40 => ranged 1 16 v { cfg with coalesceLimit := v.extractLsb' 0 5 }
  | 0x41 => ranged 1 255 v { cfg with coalesceWindow := v.extractLsb' 0 8 }
  | 0x42 => inRoleNone role (ranged 1 16 v { cfg with window := v.extractLsb' 0 5 })
  | 0x43 => ranged 20 65535 v { cfg with retryTimeout := v.extractLsb' 0 16 }
  | 0x44 => ranged 1 15 v { cfg with retryLimit := v.extractLsb' 0 4 }
  | 0x45 => ranged 10 65535 v { cfg with holdTimeout := v.extractLsb' 0 16 }
  | 0x46 => ranged 100 10000 v { cfg with helloInterval := v.extractLsb' 0 14 }
  | 0x47 => ranged 100 65535 v { cfg with lossTimeout := v.extractLsb' 0 16 }
  | 0x48 => ranged 1 255 v { cfg with drainTimeout := v.extractLsb' 0 8 }
  | 0x49 => ranged 0 255 v { cfg with promoteDelay := v.extractLsb' 0 8 }
  | 0x4A => judgeStartRole cfg v
  | 0x4B => ranged 10 5000 v { cfg with pulseInterval := v.extractLsb' 0 13 }
  | 0x4C => ranged 10 65535 v { cfg with confirmTimeout := v.extractLsb' 0 16 }
  | _ => .error .readOnly

/-- The region items: the span item of an entry has an even number, the mode item an odd one (11.4). -/
def judgeRegionItem (cfg : Settings) (item : Byte) (v : Word) : Except Access Settings :=
  if item.getLsbD 0 then judgeMode cfg (itemEntry item) v else judgeSpan cfg (itemEntry item) v

/-- An item's own checks and the configuration the value gives (R173 check 4, R174). An item that is
not a configuration item is refused (R191). -/
def judgeConfig (role : Role) (cfg : Settings) (item : Byte) (v : Word) : Except Access Settings :=
  if item = 0x32#8 then judgeRoutes cfg v
  else if item = 0x38#8 then judgeLinkControl cfg v
  else if 0x60 ≤ item.toNat ∧ item.toNat ≤ 0x7F then inRoleNone role (judgeRegionItem cfg item v)
  else judgeSetting role cfg item v

/-! ### Reading an item (R171, R175, R176, 11.4) -/

/-- A 16-bit value in the high half of an item. -/
def highHalf (h : Half) : Word := h ++ 0#16

/-- A 16-bit value in the low half of an item. -/
def lowHalf (h : Half) : Word := 0#16 ++ h

/-- The stream mode a unit shows: CLOSED while it is not ACTIVE (R75). -/
def shownMode (s : State) : StreamMode := if s.pair.role = .active then s.stream.mode else .closed

/-- STREAM_STATE (11.4, R201). -/
def streamStateItem (s : State) : Word :=
  let isActive := s.pair.role == .active
  highHalf s.stream.epoch ||| fieldAt 0 (modeCode (shownMode s))
    ||| bitAt 4 (isActive && s.stream.isOpen) ||| bitAt 8 (isActive && s.stream.basisValid)

/-- The held epoch a unit shows: absent while it is not STANDBY (R113). -/
def shownHeldEpoch (s : State) : Option Half :=
  if s.pair.role = .standby then s.apply.heldEpoch else none

/-- The expected sequence a unit shows: 0 while it is not STANDBY (R113). -/
def shownExpected (s : State) : Half := if s.pair.role = .standby then s.apply.expected else 0#16

/-- The walker's run state a unit shows: STOPPED while it is not ACTIVE (R137). -/
def shownRun (s : State) : RunState := if s.pair.role = .active then s.walker.run else .stopped

/-- The dirty count a unit shows: 0 while it is not ACTIVE (R137). -/
def shownDirty (s : State) : Nat := if s.pair.role = .active then s.dirty.length else 0

/-- RESYNC_STATUS (11.4). -/
def resyncStatusItem (s : State) : Word :=
  highHalf s.walker.epoch ||| fieldAt 0 (outcomeCode s.walker.outcome)
    ||| fieldAt 4 (scopeCode s.walker.scope) ||| fieldAt 8 (runCode (shownRun s))

/-- PARTNER_STATE (11.4). An epoch that is not present reads 0 (log 14). -/
def partnerStateItem (p : PartnerView) : Word :=
  highHalf (p.epoch.getD 0#16) ||| bitAt 0 p.heard ||| fieldAt 4 (roleCode p.role)
    ||| fieldAt 8 (consistencyCode p.consistency) ||| bitAt 12 p.streamOpen ||| bitAt 13 p.epoch.isSome

/-- LINK_CONTROL (11.4). -/
def linkControlItem (cfg : Settings) : Word :=
  bitAt 0 cfg.linkEnable ||| fieldAt 4 (rateCode cfg.linkRate)

/-- The code of a command, 0 for none (11.5). -/
def commandField (c : Option Command) : Nat :=
  match c with
  | some c => commandCode c
  | none => 0

/-- COMMAND_RESULT (11.4, 11.5). -/
def commandResultItem (r : CmdResult) : Word :=
  fieldAt 0 (commandField r.command) ||| fieldAt 4 (cmdStateCode r.state)
    ||| fieldAt 8 (reasonCode r.reason) ||| fieldAt 12 (detailCode r.detail)
    ||| fieldAt 16 (commandField r.busyRefusal)

/-- The identification, status, counter and event flag items, by number (11.4). -/
def statusValue (item : Nat) (s : State) : Option Word :=
  match item with
  | 0x00 => some Config.deviceId
  | 0x01 => some (fieldAt 0 s.mgmt.strapAddr.toNat ||| bitAt 4 s.mgmt.strapLoadEn)
  | 0x10 => some (fieldAt 0 (roleCode s.pair.role))
  | 0x11 => some (fieldAt 0 (linkStateCode s.pair.link))
  | 0x12 => some (streamStateItem s)
  | 0x13 => some (fieldAt 0 (consistencyCode (reportedConsistency s)))
  | 0x14 => some (lowHalf ((shownHeldEpoch s).getD 0#16) ||| bitAt 16 (shownHeldEpoch s).isSome)
  | 0x15 => some (lowHalf (shownExpected s))
  | 0x16 => some (fieldAt 0 (occupancy s.list) ||| fieldAt 8 (sentCount s.list))
  | 0x17 => some (highHalf (oldestSeq s.list) ||| lowHalf s.list.nextSeq)
  | 0x18 => some (fieldAt 0 (shownDirty s))
  | 0x19 => some (fieldAt 0 s.walker.cursor ||| bitAt 16 s.walker.taken)
  | 0x1A => some (resyncStatusItem s)
  | 0x1B => some (partnerStateItem s.pair.partner)
  | 0x1C => some (highHalf s.pair.partner.seq ||| lowHalf s.pair.partner.digest)
  | 0x1D => some (lowHalf (regionDigest s.cfg.regions))
  | 0x1E => some (fieldAt 0 s.host.lastGuardAddr.byte)
  | 0x1F => some (fieldAt 0 (causeCode s.apply.lastFault.cause) ||| highHalf s.apply.lastFault.seq)
  | 0x20 => some (fieldAt 0 (loadCode s.loader.state) ||| fieldAt 8 s.loader.failIndex.toNat)
  | 0x21 => some (fieldAt 0 (autoPromoteCode s.events.autoPromote)
      ||| fieldAt 8 (autoResyncCode s.events.autoResync))
  | 0x22 => some (fieldAt 0 (accessCode s.mgmt.access))
  | 0x23 => some (fieldAt 0 s.apply.lastFault.addr.byte)
  | 0x28 => some (lowHalf s.rx.charErrors)
  | 0x29 => some (lowHalf s.rx.badFrames)
  | 0x2A => some (lowHalf s.rx.rxDrops)
  | 0x2B => some (lowHalf s.list.retransmits)
  | 0x2C => some (lowHalf s.list.holds)
  | 0x30 => some (fieldAt 0 s.events.flags.toNat)
  | 0x31 => some 0#32
  | 0x50 => some 0#32
  | 0x51 => some (commandResultItem s.mgmt.result)
  | _ => none

/-- The configuration items other than the region items, by number (11.4). -/
def settingValue (item : Nat) (cfg : Settings) : Option Word :=
  match item with
  | 0x32 => some (fieldAt 0 cfg.routes.toNat)
  | 0x38 => some (linkControlItem cfg)
  | 0x40 => some (fieldAt 0 cfg.coalesceLimit.toNat)
  | 0x41 => some (fieldAt 0 cfg.coalesceWindow.toNat)
  | 0x42 => some (fieldAt 0 cfg.window.toNat)
  | 0x43 => some (fieldAt 0 cfg.retryTimeout.toNat)
  | 0x44 => some (fieldAt 0 cfg.retryLimit.toNat)
  | 0x45 => some (fieldAt 0 cfg.holdTimeout.toNat)
  | 0x46 => some (fieldAt 0 cfg.helloInterval.toNat)
  | 0x47 => some (fieldAt 0 cfg.lossTimeout.toNat)
  | 0x48 => some (fieldAt 0 cfg.drainTimeout.toNat)
  | 0x49 => some (fieldAt 0 cfg.promoteDelay.toNat)
  | 0x4A => some (fieldAt 0 (roleCode cfg.startRole))
  | 0x4B => some (fieldAt 0 cfg.pulseInterval.toNat)
  | 0x4C => some (fieldAt 0 cfg.confirmTimeout.toNat)
  | _ => none

/-- The region items (11.4). -/
def regionItemValue (item : Byte) (cfg : Settings) : Word :=
  let e := regionAt cfg.regions (itemEntry item)
  if item.getLsbD 0 then modeValue e else spanValue e

/-- The value a read of an item returns; none where the number names no item (R171). -/
def itemValue (item : Byte) (s : State) : Option Word :=
  if 0x60 ≤ item.toNat ∧ item.toNat ≤ 0x7F then some (regionItemValue item s.cfg)
  else
    match statusValue item.toNat s with
    | some v => some v
    | none => settingValue item.toNat s.cfg

end Sys2Proof.Machine
end

