-- ==== Sys2Proof/Machine/Loading.lean ====
section
/-! DEFINITION. The configuration loader: the judgement of an image, the commit and the failed end of a
load, and the effects of a warm reset and of its end (chapters Configuration Image and Start-up,
and the reset rules of every chapter). -/

namespace Sys2Proof.Machine

/-! ### The image (R188 to R191, 11.3) -/

/-- What a load comes to. -/
inductive LoadJudgement where
  | absent
  | failed (index : Byte)
  | commits (cfg : Settings)
  deriving DecidableEq, Repr

/-- The bytes the loader can take: eight sampled bits each, most significant first, from the bits the memory
delivers and then what the pull-up gives (R188, R200). -/
def deliveredBytes (image : List Bool) : List Byte :=
  bytesOfBits (image ++ List.replicate (8 * maxImageBytes - image.length) Config.pulledUpBit)

/-- The entries of an image: an item number and its value, five bytes each (11.3). -/
def entriesOf : Nat → List Byte → List (Byte × Word)
  | n + 1, item :: b3 :: b2 :: b1 :: b0 :: rest => (item, wordOf b3 b2 b1 b0) :: entriesOf n rest
  | _, _ => []

/-- Entries are applied to the staging copy in order; the first that is refused ends the load with its
number (R191). `k` is the number of the first entry of the list. -/
def stage : Nat → Settings → List (Byte × Word) → LoadJudgement
  | _, staging, [] => .commits staging
  | k, staging, (item, v) :: rest =>
      match judgeConfig .none staging item v with
      | .ok staging' => stage (k + 1) staging' rest
      | .error _ => .failed (BitVec.ofNat 8 k)

/-- The judgement of the bytes of an image against the configuration in force (R189 to R191). -/
def judgeBytes (cfg : Settings) (bytes : List Byte) : LoadJudgement :=
  match bytes with
  | m :: r :: i :: m' :: c1 :: c0 :: k1 :: k0 :: rest =>
      if [m, r, i, m'] ≠ [0x4D#8, 0x52#8, 0x49#8, 0x4D#8] then .absent
      else
        let count := (halfOf c1 c0).toNat
        if count = 0 ∨ 255 < count then .failed 0#8
        else if crc16 (rest.take (5 * count)) ≠ halfOf k1 k0 then .failed 0#8
        else stage 1 cfg (entriesOf count rest)
  | _ => .absent

/-- The judgement of an image as the port delivers it. -/
def judgeImage (cfg : Settings) (image : List Bool) : LoadJudgement := judgeBytes cfg (deliveredBytes image)

/-! ### Beginning and ending a load -/

/-- A load begins: the memory is selected and the read command with its address sent, bit by bit, most
significant bit first (R188, R200). -/
def beginLoad (l : Loader) : Loader :=
  { l with
    state := .loading, failIndex := 0#8, reading := true, portOut := bitsOfBytes Config.loaderCommand }

/-- A load ends: the memory is deselected, and the state and failing index are the outcome's (R187, R188). -/
def endLoad (state : LoadState) (index : Byte) : Loader :=
  { state := state, failIndex := index, reading := false, portOut := [] }

/-- The loader reads an image. -/
def isLoading (s : State) : Bool :=
  s.phase == .running && s.loader.state == .loading && s.loader.reading

/-- A RELOAD is IN_PROGRESS (R182). -/
def reloadRunning (s : State) : Bool :=
  s.mgmt.result.command == some .reload && s.mgmt.result.state == .inProgress

/-- LOAD_END is raised, and then the slot ends a RELOAD with the outcome (R182, R187). -/
def reportLoad (detail : Detail) (s : State) : State :=
  let t := raise .loadEnd s
  if reloadRunning t then endCommand .done .none detail t else t

/-- The unit enters START_ROLE at a commit; NONE is no change (R192 step 4). -/
def enterStartRole (s : State) : State :=
  match s.cfg.startRole with
  | .none => s
  | .active => changeRole .active s
  | .standby => changeRole .standby s

/-- The commit of a staging copy, in the order of R192. -/
def commitLoad (staging : Settings) (s : State) : State :=
  let configured := updateAlert { s with cfg := staging }
  let linked := followLinkControl s.cfg.linkEnable s.cfg.linkRate configured
  reportLoad .loaded (enterStartRole { linked with loader := endLoad .loaded 0#8 })

/-- The end of a load that commits nothing (R193). -/
def failLoad (state : LoadState) (index : Byte) (detail : Detail) (s : State) : State :=
  reportLoad detail { s with loader := endLoad state index }

/-! ### Warm reset (R186, and the warm reset column of every chapter) -/

/-- The loader at a warm reset: a load in progress is ended, to be restarted (R195, R197). -/
def warmLoader (l : Loader) : Loader :=
  if l.state = .loading then { state := .loading, failIndex := 0#8, reading := false, portOut := [] }
  else l

/-- The host port at a warm reset: held and withheld requests are answered FAULT, a forwarded one stays
and a CONFIRM write with a reservation is condemned (R149, R154). -/
def warmHost (s : State) : HostPort :=
  match s.host.port with
  | .held _ _ _ _ => { HostPort.reset with response := some .fault }
  | .withheld _ => { HostPort.reset with response := some .fault }
  | .forwarded req cls condemned =>
      { HostPort.reset with
        response := s.host.response
        port := .forwarded req cls
          (condemned || (s.list.reserved && isMirrored req cls && cls.policy == .confirm)) }
  | .idle => { HostPort.reset with response := s.host.response }

/-- The effects of a warm reset, taken whole (R49, R72, R96, R114, R138, R154, R156, R168, R184, R197). -/
def warmEffects (s : State) : State :=
  { State.reset with
    pending := s.pending
    phase := s.phase
    wrst := s.wrst
    cfg := s.cfg
    loader := warmLoader s.loader
    host := warmHost s
    mem := (withdrawInternal s).mem
    tx := { LinkTx.reset with serializer := cutOff s.tx.serializer }
    stream := { Stream.reset with epoch := s.stream.epoch, basisEpoch := s.stream.basisEpoch }
    mgmt := { MgmtPort.reset with
      strapAddr := s.mgmt.strapAddr
      strapLoadEn := s.mgmt.strapLoadEn
      acked := s.mgmt.acked
      readBytes := s.mgmt.readBytes } }

/-- What the end of a warm reset makes of the loader and the role: an ended load begins anew and the role
stays NONE, otherwise the unit enters START_ROLE with no event (R73, R186, R195). -/
def restartLoadOrRole (s : State) : State :=
  if s.loader.state = .loading then { s with loader := beginLoad s.loader }
  else enterRole s.cfg.startRole s

/-- The end of a warm reset (R186); the link's first HELLO may start at once (R69). -/
def warmEnd (s : State) : State :=
  let t := restartLoadOrRole { s with phase := .running }
  schedule (if t.cfg.linkEnable then enableLink t else t)

end Sys2Proof.Machine
end

