-- ==== Sys2Proof/Machine/Slot.lean ====
section
/-! DEFINITION. The two-wire target and the command slot: addressing, access status, the order of a
write's checks, the taking of a command, and what each command does (chapter Management Port). -/

namespace Sys2Proof.Machine

/-! ### Transactions (R169 to R173) -/

/-- The unit's target address (R169). -/
def targetAddress (s : State) : Nat := Config.targetBase + s.mgmt.strapAddr.toNat

/-- The unit acknowledges the address byte: its own address, and neither reset pin asserted (R169, R186). -/
def acknowledges (target : BitVec 7) (s : State) : Bool :=
  s.phase == .running && !s.wrst && target.toNat == targetAddress s

/-- A transaction addressed to `target` that brings the addressed unit `bytes` bytes, the address byte among them:
taken, and every one of those bytes acknowledged, when the unit acknowledges the address; ignored, and no byte
acknowledged, otherwise (R169, R170). -/
def transaction (target : BitVec 7) (bytes : Nat) (taken : State → State) (s : State) : State :=
  if acknowledges target s then taken { s with mgmt := { s.mgmt with acked := bytes } }
  else { s with mgmt := { s.mgmt with acked := 0 } }

/-- The bytes of a write-direction transaction with so many data bytes: the address byte and the item number byte
come before them (R170). -/
def writeLength (dataBytes : Nat) : Nat := 2 + dataBytes

/-- The item number byte selects an item (R170). -/
def selectItem (item : Byte) (s : State) : State :=
  { s with mgmt := { s.mgmt with selected := item } }

/-- Set the access status (R172). -/
def setAccess (a : Access) (s : State) : State := { s with mgmt := { s.mgmt with access := a } }

/-- A four-byte write, judged in the order of R173: unknown item, load in progress, read-only item, then
the item's own rule, `own`, which sees access status OK if it accepts. -/
def writeTransaction (target : BitVec 7) (item : Byte) (own : State → State) (s : State) : State :=
  transaction target (writeLength 4) (fun t =>
    let t := selectItem item t
    match itemKind item with
    | none => setAccess .unknown t
    | some kind =>
        if t.loader.state = .loading then setAccess .loading t
        else if kind = .readOnly then setAccess .readOnly t
        else own t) s

/-! ### Configuration items (R174) -/

/-- A write of a configuration item by its own checks: the item takes its value, or the access status
says why not (R173, R174). -/
def writeConfig (item : Byte) (v : Word) (s : State) : State :=
  match judgeConfig s.pair.role s.cfg item v with
  | .ok cfg => setAccess .ok { s with cfg := cfg }
  | .error a => setAccess a s

/-- A write of EVENT_ROUTES: the ALERT line follows (R160, R161). -/
def writeRoutes (v : Word) (s : State) : State := updateAlert (writeConfig 0x32#8 v s)

/-- A write of LINK_CONTROL: the link follows (R51, R70). -/
def writeLinkControl (v : Word) (s : State) : State :=
  finish (followLinkControl s.cfg.linkEnable s.cfg.linkRate (writeConfig 0x38#8 v s))

/-- A write of EVENT_CLEAR: the named flags are cleared together (R158). -/
def clearFlags (v : Word) (s : State) : State :=
  if onlyIn 0x7FFF#32 v then
    updateAlert (setAccess .ok
      { s with events := { s.events with flags := s.events.flags &&& ~~~(v.extractLsb' 0 15) } })
  else setAccess .badValue s

/-! ### The command slot (R177, R178) -/

/-- A role command, which counts as taken for the auto-promote reflex even when refused (R89, R177). -/
def isRoleCommand : Command → Bool
  | .setActive => true
  | .setStandby => true
  | .setNone => true
  | _ => false

/-- The result describes the command anew, with no busy refusal (R178). -/
def describe (c : Command) (state : CmdState) (reason : Reason) (detail : Detail) (s : State) : State :=
  { s with mgmt := { s.mgmt with result :=
      { command := some c, state := state, reason := reason, detail := detail, busyRefusal := none } } }

/-- A command that ends at once with DONE; COMMAND_END follows the result (R178). -/
def doneAtOnce (c : Command) (s : State) : State :=
  raise .commandEnd (describe c .done .none .none s)

/-- A command refused at issue; COMMAND_END follows the result (R178). -/
def refusedAtOnce (c : Command) (reason : Reason) (s : State) : State :=
  raise .commandEnd (describe c .refused reason .none s)

/-- A command refused because another is IN_PROGRESS (R177). -/
def refusedBusy (c : Command) (s : State) : State :=
  raise .commandEnd
    { s with mgmt := { s.mgmt with result := { s.mgmt.result with busyRefusal := some c } } }

/-- The slot takes a command: a role command stops the promote timer, a running command makes it refused
with BUSY, otherwise its own rule carries it out or refuses it (R89, R177). -/
def takeCommand (c : Command) (own : State → State) (s : State) : State :=
  let t := setAccess .ok s
  let t := if isRoleCommand c then cancelPromote t else t
  if t.mgmt.result.state = .inProgress then refusedBusy c t else own t

/-! ### What each command does -/

/-- SET_ACTIVE by the unit's role (R86). -/
def setActiveEffect (s : State) : State :=
  match s.pair.role with
  | .none => finish (doneAtOnce .setActive (changeRole .active s))
  | .standby =>
      if s.pair.link = .up ∧ s.pair.partner.role = .active then
        refusedAtOnce .setActive .partnerActive s
      else finish (doneAtOnce .setActive (promote s))
  | .active => doneAtOnce .setActive s

/-- SET_STANDBY by the unit's role (R87). -/
def setStandbyEffect (s : State) : State :=
  if s.pair.role = .standby then doneAtOnce .setStandby s
  else finish (doneAtOnce .setStandby (changeRole .standby s))

/-- SET_NONE by the unit's role (R88). -/
def setNoneEffect (s : State) : State :=
  if s.pair.role = .none then doneAtOnce .setNone s
  else finish (doneAtOnce .setNone (changeRole .none s))

/-- A mirrored write is forwarded to memory without a reservation (R90), in whatever role it was classified (R3),
by the policy that the port keeps with it (R140; log 35). -/
def forwardedUnreserved (s : State) : Bool :=
  match s.host.port with
  | .forwarded req cls _ => isMirroredWrite req cls && !s.list.reserved
  | _ => false

/-- The first failing condition of HANDOVER, in the order of R90. -/
def handoverRefusal (s : State) : Option Reason :=
  if s.pair.role ≠ .active then some .notActive
  else if s.pair.link ≠ .up then some .linkNotUp
  else if s.pair.partner.role ≠ .standby ∨ s.pair.partner.consistency ≠ .consistent then
    some .partnerNotReady
  else if s.stream.mode ≠ .normal ∨ forwardedUnreserved s then some .streamNotNormal
  else none

/-- A LIST hold passes under the drain; its hold timer stops with the list's hold (R43). -/
def drainPort : PortState → PortState
  | .held .list req cls counted => .held .drain req cls counted
  | other => other

/-- An accepted HANDOVER (R90). -/
def acceptHandover (s : State) : State :=
  describe .handover .inProgress .none .drain
    { s with
      stream := { s.stream with mode := .draining }
      pair := { s.pair with drainTimer := some (1000 * s.cfg.drainTimeout.toNat) }
      list := { closeWrite s.list with holdTimer := none }
      host := { s.host with port := drainPort s.host.port } }

/-- HANDOVER is accepted or refused (R90). -/
def handoverEffect (s : State) : State :=
  match handoverRefusal s with
  | some reason => refusedAtOnce .handover reason s
  | none => finish (acceptHandover s)

/-- The first failing condition of RESYNC, in the order of R119. -/
def resyncRefusal (s : State) : Option Reason :=
  if s.pair.role ≠ .active then some .notActive
  else if s.pair.link ≠ .up then some .linkNotUp
  else if s.pair.partner.role ≠ .standby then some .partnerNotReady
  else if s.stream.mode ≠ .normal then some .streamNotNormal
  else none

/-- RESYNC starts a resync at once, or is refused (R119). -/
def resyncEffect (s : State) : State :=
  match resyncRefusal s with
  | some reason => refusedAtOnce .resync reason s
  | none => finish (doneAtOnce .resync (resyncStart s))

/-- RESTART: the result and COMMAND_END, then a warm reset that ends at once (R181, R186). -/
def restartEffect (s : State) : State := warmEnd (warmEffects (doneAtOnce .restart s))

/-- RELOAD begins a load in role NONE, or is refused (R182, R196). -/
def reloadEffect (s : State) : State :=
  if s.pair.role = .none then
    let t := describe .reload .inProgress .none .none s
    { t with loader := beginLoad t.loader }
  else refusedAtOnce .reload .notNone s

/-- The five counters become 0 together (R180). -/
def zeroCounters (s : State) : State :=
  { s with
    rx := { s.rx with charErrors := 0#16, badFrames := 0#16, rxDrops := 0#16 }
    list := { s.list with retransmits := 0#16, holds := 0#16 } }

/-- CLEAR_COUNTERS (R180). -/
def clearCountersEffect (s : State) : State := doneAtOnce .clearCounters (zeroCounters s)

/-- What a command of the slot does, by its code's name (R177). -/
def commandEffect : Command → State → State
  | .setActive => setActiveEffect
  | .setStandby => setStandbyEffect
  | .setNone => setNoneEffect
  | .handover => handoverEffect
  | .resync => resyncEffect
  | .restart => restartEffect
  | .reload => reloadEffect
  | .clearCounters => clearCountersEffect

/-- A write of COMMAND: a code that names no command is refused (R177, R202). -/
def writeCommand (v : Word) (s : State) : State :=
  match commandOfCode v.toNat with
  | some c => takeCommand c (commandEffect c) s
  | none => setAccess .badValue s

/-- The own rule of any item that may be written (R173, R174). -/
def writeOwn (item : Byte) (v : Word) (s : State) : State :=
  match itemKind item with
  | some .eventClear => clearFlags v s
  | some .command => writeCommand v s
  | some .config =>
      if item = 0x32#8 then writeRoutes v s
      else if item = 0x38#8 then writeLinkControl v s
      else writeConfig item v s
  | _ => s

end Sys2Proof.Machine
end

