-- ==== Sys2Proof/Machine/HostSide.lean ====
section
/-! DEFINITION. The host port, the memory port's grants, write capture and the holds: HOST_REQUEST,
MEMORY_GRANT, HOST_MEMORY_ANSWER, COALESCE_TIMER_EXPIRY, HOLD_RESERVED, HOLD_TIMER_EXPIRY,
CONFIRM_TIMER_EXPIRY. -/

namespace Sys2Proof.Machine

/-- HOST_REQUEST (R140): accepted while the host port is IDLE; otherwise it stays unaccepted on the bus
(R139, log 2). -/
def execHostRequest (kind : HostKind) (addr : WordAddr) (lanes : LaneMask) (data : Word) (s : State) :
    Host.Outcome State Fault Refusal :=
  .next
    (if s.phase = .running ∧ s.host.port = .idle then
      finish (acceptRequest { kind := kind, addr := addr, lanes := lanes, data := data } false
        { s with host := { s.host with response := none } })
    else s)

/-! ### The arbiter (R151, R152) -/

/-- The request the host path waits with: the one the host port has forwarded (R142). -/
def hostPathRequest (s : State) : Option HostReq :=
  match s.host.port with
  | .forwarded req _ _ => some req
  | _ => none

/-- The bus is granted to the host path; `count` is the fairness count afterwards. -/
def grantHost (req : HostReq) (count : Nat) (m : MemPort) : MemPort :=
  { m with bus := some (.host req), fairness := count }

/-- The bus is granted to the internal requester (R152). -/
def grantInternal (op : InternalOp) : MemPort :=
  { bus := some (.internal op false), waiting := none, fairness := 0 }

/-- The arbiter's choice on a free bus (R152). -/
def arbitrate (host : Option HostReq) (m : MemPort) : MemPort :=
  match host, m.waiting with
  | some req, some op =>
      if m.fairness < Config.fairnessLimit then grantHost req (m.fairness + 1) m else grantInternal op
  | some req, none => grantHost req m.fairness m
  | none, some op => grantInternal op
  | none, none => m

/-- MEMORY_GRANT (R152): whenever the bus is free and a request waits. -/
def execMemoryGrant (s : State) : Host.Outcome State Fault Refusal :=
  .next
    (if s.phase ≠ .cold ∧ s.mem.bus = none then { s with mem := arbitrate (hostPathRequest s) s.mem }
    else s)

/-! ### Capture at memory's answer (R11, R12, R15 to R21) -/

/-- The reservation is used or returned at memory's answer (R14). -/
def dropReservation (s : State) : State := { s with list := { s.list with reserved := false } }

/-- The response to a write memory took that no confirm wait follows: OK for STREAM, FAULT with
CONFIRM_FAIL for CONFIRM, with no further event if it was condemned (R11, R12, R15, R143). -/
def answerUnconfirmed (cls : HostClass) (condemned : Bool) (s : State) : State :=
  if cls.policy = .confirm then
    if condemned then respond .fault s else raise .confirmFail (respond .fault s)
  else respond .writeOk s

/-- The write's block is marked (R12). -/
def markWrite (req : HostReq) (s : State) : State :=
  { s with dirty := markBlock (blockOf req.addr) s.dirty }

/-- The write joins the record: it is the open WRITE record of the write's region, the write's word is its
next, and its count is below the coalesce limit (R18). -/
def canJoin (limit : Nat) (req : HostReq) (region : BitVec 4) (r : Rec) : Bool :=
  isOpenWrite r &&
    match r.body with
    | .data _ idx start words =>
        idx == region && req.addr.toNat == start.toNat + words.length && words.length < limit
    | _ => false

/-- The word of a write (R18, R19). -/
def wordOfWrite (req : HostReq) : DataWord := { mask := req.lanes, data := req.data }

/-- The coalesce timer starts or restarts; the open WRITE record closes at once where `closes` says so
(R18, R19, R20). -/
def openOrClose (closes : Bool) (s : State) : State :=
  if closes then { s with list := closeWrite s.list }
  else { s with list := { s.list with coalesceTimer := some s.cfg.coalesceWindow.toNat } }

/-- A STREAM write joins the open WRITE record; at the coalesce limit the record closes (R18, R20). -/
def joinWrite (req : HostReq) (region : BitVec 4) (s : State) : State :=
  let limit := s.cfg.coalesceLimit.toNat
  let joins := canJoin limit req region
  let records := s.list.records.map fun r =>
    if joins r then { r with body := appendWord (wordOfWrite req) r.body } else r
  let full := s.list.records.any fun r => joins r && decide (bodyWords r.body + 1 = limit)
  openOrClose full (dropReservation { s with list := { s.list with records := records } })

/-- The body of a WRITE record of one word (R19, R21). -/
def writeBody (req : HostReq) (region : BitVec 4) : RecordBody :=
  .data .write region req.addr [wordOfWrite req]

/-- A captured STREAM write opens a WRITE record in an entry it has (R19). -/
def openWrite (req : HostReq) (region : BitVec 4) (s : State) : State :=
  let t := dropReservation { s with list := closeWrite s.list }
  openOrClose (s.cfg.coalesceLimit.toNat == 1 || s.stream.mode == .draining)
    { t with list := addRecord (writeBody req region) .opened false t.list }

/-- Begin a confirm wait (R147). -/
def beginConfirmWait (req : HostReq) (s : State) : State :=
  { s with host := { s.host with
      port := .withheld req, confirmTimer := some s.cfg.confirmTimeout.toNat } }

/-- A captured CONFIRM write forms its own record, which closes at once. With its reservation a confirm
wait begins; late, or condemned, its response is decided now (R21, R143, R149). -/
def captureConfirm (req : HostReq) (cls : HostClass) (region : BitVec 4) (condemned : Bool) (s : State) :
    State :=
  let waits := s.list.reserved && !condemned
  let t := dropReservation { s with list := closeWrite s.list }
  let t := { t with list := addRecord (writeBody req region) .pending waits t.list }
  if waits then beginConfirmWait req t else answerUnconfirmed cls condemned t

/-- A late capture that finds no free entry: the unit spills, the write's block is marked in TRACKING, and
then the resync start that the spill may cause is taken (R17, R45; log 10). -/
def captureBySpill (req : HostReq) (cls : HostClass) (condemned : Bool) (s : State) : State :=
  answerUnconfirmed cls condemned (resyncAfterSpill (markWrite req (spillCore s)))

/-- A write that must be captured (R15, R17, R18). -/
def capture (req : HostReq) (cls : HostClass) (condemned : Bool) (s : State) : State :=
  let region := cls.region.getD 0#4
  let hasEntry := s.list.reserved || freeEntry s.list
  if cls.policy = .confirm then
    if hasEntry then captureConfirm req cls region condemned s else captureBySpill req cls condemned s
  else if s.stream.mode != .draining
      && s.list.records.any (canJoin s.cfg.coalesceLimit.toNat req region) then
    respond .writeOk (joinWrite req region s)
  else if hasEntry then respond .writeOk (openWrite req region s)
  else captureBySpill req cls condemned s

/-- Memory's OK to a mirrored write classified on an ACTIVE unit, by the role and stream mode now (R15). -/
def captureAnswer (req : HostReq) (cls : HostClass) (condemned : Bool) (s : State) : State :=
  if s.pair.role = .active then
    match s.stream.mode with
    | .closed => answerUnconfirmed cls condemned (dropReservation s)
    | .tracking => answerUnconfirmed cls condemned (markWrite req (dropReservation s))
    | .resync =>
        if cls.policy = .stream ∧ s.dirty.contains (blockOf req.addr) then
          respond .writeOk (dropReservation s)
        else capture req cls condemned s
    | .normal => capture req cls condemned s
    | .draining => capture req cls condemned s
  else answerUnconfirmed cls condemned (dropReservation s)

/-- The response that passes memory's answer back unchanged (R143). -/
def passedBack (kind : HostKind) (answer : MemAnswer) : HostResponse :=
  match answer, kind with
  | .fault, _ => .fault
  | .ok data, .read => .readOk data
  | .ok _, .write => .writeOk

/-- Memory's answer to a forwarded request (R16, R143). -/
def hostAnswer (answer : MemAnswer) (req : HostReq) (cls : HostClass) (condemned : Bool) (s : State) :
    State :=
  if isMirrored req cls then
    match answer with
    | .ok _ => captureAnswer req cls condemned s
    | .fault => respond .fault (dropReservation s)
  else respond (passedBack req.kind answer) s

/-- HOST_MEMORY_ANSWER (R143): memory answers the host's transaction. -/
def execHostMemoryAnswer (answer : MemAnswer) (s : State) : Host.Outcome State Fault Refusal :=
  .next
    (match s.mem.bus, s.host.port with
    | some (.host _), .forwarded req cls condemned =>
        finish (hostAnswer answer req cls condemned { s with mem := { s.mem with bus := none } })
    | _, _ => s)

/-! ### Expiries and the end of a LIST hold -/

/-- COALESCE_TIMER_EXPIRY (R20): the open WRITE record closes. -/
def execCoalesceTimerExpiry (s : State) : Host.Outcome State Fault Refusal :=
  .next (if s.list.coalesceTimer.isSome then finish { s with list := closeWrite s.list } else s)

/-- HOLD_RESERVED (R41): a free entry goes to the held write, which is forwarded with the classification
it has. -/
def execHoldReserved (s : State) : Host.Outcome State Fault Refusal :=
  .next
    (match s.host.port with
    | .held .list req cls _ => if freeEntry s.list then reserveAndForward req cls s else s
    | _ => s)

/-- HOLD_TIMER_EXPIRY (R42): HOLD_TIMEOUT, a spill, and the held write classified again (R45). -/
def execHoldTimerExpiry (s : State) : Host.Outcome State Fault Refusal :=
  .next
    (match s.host.port with
    | .held .list req _ counted =>
        if s.list.holdTimer.isSome then
          finish (reclassify req counted (spill (raise .holdTimeout
            { s with list := { s.list with holdTimer := none } })))
        else s
    | _ => s)

/-- CONFIRM_TIMER_EXPIRY (R148): the confirm wait ends with FAULT and CONFIRM_FAIL. -/
def execConfirmTimerExpiry (s : State) : Host.Outcome State Fault Refusal :=
  .next (if s.host.confirmTimer.isSome then failConfirmWait s else s)

end Sys2Proof.Machine
end

