-- ==== Sys2Proof/Machine/Managing.lean ====
section
/-! DEFINITION. The management port's transactions: the eight commands of COMMAND, EVENT_CLEAR,
EVENT_ROUTES, LINK_CONTROL, REGION_SPAN, REGION_MODE, ITEM_WRITE, ITEM_SELECT, SHORT_WRITE, ITEM_READ
(chapter Management Port). -/

namespace Sys2Proof.Machine

/-! ### Writes of COMMAND (R177) -/

/-- A write of COMMAND with the code of command `c`, taken by the slot with its own rule `own` (R177). -/
def commandTransaction (target : BitVec 7) (c : Command) (own : State → State) (s : State) : State :=
  writeTransaction target 0x50#8 (takeCommand c own) s

/-- SET_ACTIVE (R86). -/
def execSetActive (target : BitVec 7) (s : State) : Host.Outcome State Fault Refusal :=
  .next (commandTransaction target .setActive setActiveEffect s)

/-- SET_STANDBY (R87). -/
def execSetStandby (target : BitVec 7) (s : State) : Host.Outcome State Fault Refusal :=
  .next (commandTransaction target .setStandby setStandbyEffect s)

/-- SET_NONE (R88). -/
def execSetNone (target : BitVec 7) (s : State) : Host.Outcome State Fault Refusal :=
  .next (commandTransaction target .setNone setNoneEffect s)

/-- HANDOVER (R90). -/
def execHandover (target : BitVec 7) (s : State) : Host.Outcome State Fault Refusal :=
  .next (commandTransaction target .handover handoverEffect s)

/-- RESYNC (R119). -/
def execResync (target : BitVec 7) (s : State) : Host.Outcome State Fault Refusal :=
  .next (commandTransaction target .resync resyncEffect s)

/-- RESTART (R181). -/
def execRestart (target : BitVec 7) (s : State) : Host.Outcome State Fault Refusal :=
  .next (commandTransaction target .restart restartEffect s)

/-- RELOAD (R182). -/
def execReload (target : BitVec 7) (s : State) : Host.Outcome State Fault Refusal :=
  .next (commandTransaction target .reload reloadEffect s)

/-- CLEAR_COUNTERS (R180). -/
def execClearCounters (target : BitVec 7) (s : State) : Host.Outcome State Fault Refusal :=
  .next (commandTransaction target .clearCounters clearCountersEffect s)

/-! ### Writes of the other items (R170, R173, R174) -/

/-- EVENT_CLEAR (R158). -/
def execEventClear (target : BitVec 7) (d : DataBytes) (s : State) : Host.Outcome State Fault Refusal :=
  .next (writeTransaction target 0x31#8 (clearFlags (valueOf d)) s)

/-- EVENT_ROUTES (R160). -/
def execEventRoutes (target : BitVec 7) (d : DataBytes) (s : State) : Host.Outcome State Fault Refusal :=
  .next (writeTransaction target 0x32#8 (writeRoutes (valueOf d)) s)

/-- LINK_CONTROL (R51). -/
def execLinkControl (target : BitVec 7) (d : DataBytes) (s : State) : Host.Outcome State Fault Refusal :=
  .next (writeTransaction target 0x38#8 (writeLinkControl (valueOf d)) s)

/-- REGION_SPAN (R5). -/
def execRegionSpan (target : BitVec 7) (n : BitVec 4) (d : DataBytes) (s : State) :
    Host.Outcome State Fault Refusal :=
  .next (writeTransaction target (spanItem n) (writeConfig (spanItem n) (valueOf d)) s)

/-- REGION_MODE (R6). -/
def execRegionMode (target : BitVec 7) (n : BitVec 4) (d : DataBytes) (s : State) :
    Host.Outcome State Fault Refusal :=
  .next (writeTransaction target (modeItem n) (writeConfig (modeItem n) (valueOf d)) s)

/-- ITEM_WRITE (R174): a four-byte write of any item number. -/
def execItemWrite (target : BitVec 7) (item : Byte) (d : DataBytes) (s : State) :
    Host.Outcome State Fault Refusal :=
  .next (writeTransaction target item (writeOwn item (valueOf d)) s)

/-- ITEM_SELECT (R170): the selected item changes and nothing else; both bytes are acknowledged. -/
def execItemSelect (target : BitVec 7) (item : Byte) (s : State) : Host.Outcome State Fault Refusal :=
  .next (transaction target (writeLength 0) (selectItem item) s)

/-- SHORT_WRITE (R170): the item is selected, and the access status becomes SHORT; every byte is acknowledged,
however many there are. -/
def execShortWrite (target : BitVec 7) (item : Byte) (data : List Byte) (s : State) :
    Host.Outcome State Fault Refusal :=
  .next (transaction target (writeLength data.length) (fun t => setAccess .short (selectItem item t)) s)

/-! ### Reads (R171) -/

/-- The access status after a read of the selected item (R171, R172). -/
def accessAfterRead (s : State) : Access :=
  if s.mgmt.selected = 0x22#8 then s.mgmt.access
  else if (itemValue s.mgmt.selected s).isSome then .ok
  else .unknown

/-- The bytes a read sends: the snapshot's four, then bytes of value 0, as many as are taken (R171). -/
def sentBytes (v : Word) (count : Nat) : List Byte :=
  (wordBytes v ++ List.replicate (count - 4) 0#8).take count

/-- A read of the selected item (R171). -/
def readSelected (count : Nat) (s : State) : State :=
  { s with mgmt := { s.mgmt with
      access := accessAfterRead s
      readBytes := sentBytes ((itemValue s.mgmt.selected s).getD 0#32) count } }

/-- ITEM_READ (R171): of its bytes the unit acknowledges the address byte alone, the initiator the rest. -/
def execItemRead (target : BitVec 7) (count : Nat) (s : State) : Host.Outcome State Fault Refusal :=
  .next (transaction target 1 (readSelected count) s)

end Sys2Proof.Machine
end

