-- ==== Sys2Proof/Machine/LinkSide.lean ====
section
/-! DEFINITION. The mirror link's datapath: LINK_CHARACTER, RECEIVER_RESUMES_HUNTING, FRAME_DISCARDED,
FRAME_END, PULSE_TIMER_EXPIRY, HELLO_INTERVAL_EXPIRY. -/

namespace Sys2Proof.Machine

/-! ### The frame assembler (R58 to R61) -/

/-- A bad frame: BAD_FRAMES rises by one and LINK_ERROR is raised (R59, R71). -/
def badFrame (next : Assembler) (s : State) : State :=
  raise .linkError
    { s with rx := { s.rx with assembler := next, badFrames := countUp s.rx.badFrames } }

/-- Set the assembler's state. -/
def setAssembler (a : Assembler) (s : State) : State := { s with rx := { s.rx with assembler := a } }

/-- A new frame of type `t`: no data characters, the CRC started from the type code (R58). -/
def beginFrame (t : FrameType) : Assembler := .inFrame t [] (crc16 [sofCode t])

/-- A good frame finds a free slot, and the loss timer restarts if it runs; or it is dropped (R61, R62, R82). -/
def placeFrame (f : Frame) (s : State) : State :=
  if s.rx.buffer.length < Config.rxSlots then
    { s with
      rx := { s.rx with assembler := .hunt, buffer := s.rx.buffer ++ [f] }
      pair := { s.pair with lossTimer := s.pair.lossTimer.map fun _ => s.cfg.lossTimeout.toNat } }
  else { s with rx := { s.rx with assembler := .hunt, rxDrops := countUp s.rx.rxDrops } }

/-- The frame of the collected data characters, if its CRC and form are good: at least two characters, the
running CRC over the type code and all of them 0, and a well-formed payload (R61, R198). -/
def goodFrame (t : FrameType) (data : List Byte) (crc : Half) : Option Frame :=
  if 2 ≤ data.length ∧ crc = 0#16 then parseFrame t (data.take (data.length - 2)) else none

/-- A frame is judged at EOF (R61). -/
def judgeFrame (t : FrameType) (data : List Byte) (crc : Half) (s : State) : State :=
  match goodFrame t data crc with
  | some f => placeFrame f s
  | none => badFrame .hunt s

/-- A data character of a frame being collected; the 83rd makes the frame bad (R59). -/
def collect (t : FrameType) (data : List Byte) (crc : Half) (b : Byte) (s : State) : State :=
  if data.length < Config.maxDataChars then
    setAssembler (.inFrame t (data ++ [b]) (crcByte crc b)) s
  else badFrame .discard s

/-- The assembler in IN_FRAME (R59). -/
def assembleInFrame (t : FrameType) (data : List Byte) (crc : Half) (sym : RxSymbol) (s : State) :
    State :=
  match sym with
  | .data b => collect t data crc b s
  | .sof t' => badFrame (beginFrame t') s
  | .eof => judgeFrame t data crc s
  | .abort => setAssembler .hunt s
  | .error => badFrame .discard s

/-- The assembler's handling of an input in each of its states (R58, R59, R60). -/
def assemble (sym : RxSymbol) (s : State) : State :=
  match s.rx.assembler, sym with
  | .inFrame t data crc, sym => assembleInFrame t data crc sym s
  | .hunt, .sof t => setAssembler (beginFrame t) s
  | .hunt, _ => s
  | .discard, .sof t => setAssembler (beginFrame t) s
  | .discard, .eof => setAssembler .hunt s
  | .discard, .abort => setAssembler .hunt s
  | .discard, _ => s

/-- A character error is counted and signalled; after a stop error the receiver waits for the line to be
1 (R53, R71). -/
def characterError (stop : Bool) (s : State) : State :=
  raise .linkError
    { s with rx := { s.rx with
        charErrors := countUp s.rx.charErrors
        receiver := if stop then .awaitingLine else s.rx.receiver } }

/-- A character that is no false start (R53, R54). -/
def takeCharacter (bits : BitVec 12) (s : State) : State :=
  match symbolOf bits with
  | .error => assemble .error (characterError (stopError bits) s)
  | sym => assemble sym s

/-- LINK_CHARACTER (R52): the receiver takes one character whole while it hunts; a false start is
ignored. -/
def execLinkCharacter (bits : BitVec 12) (s : State) : Host.Outcome State Fault Refusal :=
  .next (if s.rx.receiver = .hunting ∧ !falseStart bits then takeCharacter bits s else s)

/-- RECEIVER_RESUMES_HUNTING (R53): after a stop error, the line is 1 again. -/
def execReceiverResumesHunting (s : State) : Host.Outcome State Fault Refusal :=
  .next
    (if s.rx.receiver = .awaitingLine then { s with rx := { s.rx with receiver := .hunting } } else s)

/-! ### The dispatcher's discards (R63) -/

/-- The dispatcher discards the frame in the unit's role: a RECORD unless STANDBY, an ACK or NAK unless
ACTIVE (R63). -/
def discardsFrame (role : Role) : Frame → Bool
  | .record _ _ => role != .standby
  | .ack _ => role != .active
  | .nak _ => role != .active
  | .hello _ => false
  | .pulse _ => false

/-- The oldest frame leaves the receive buffer (R62, R63). -/
def dropOldest (s : State) : State := { s with rx := { s.rx with buffer := s.rx.buffer.tail } }

/-- FRAME_DISCARDED (R63): the oldest frame is discarded, uncounted. -/
def execFrameDiscarded (s : State) : Host.Outcome State Fault Refusal :=
  .next
    (match s.rx.buffer with
    | f :: _ => if discardsFrame s.pair.role f then dropOldest s else s
    | [] => s)

/-! ### The transmitter's ends and timers -/

/-- The serializer is free, and the pulse timer starts while the link is UP (R64, R66). -/
def frameEnded (s : State) : State :=
  { s with tx := { s.tx with
      serializer := .free
      pulseTimer := if s.pair.link = .up then some s.cfg.pulseInterval.toNat else s.tx.pulseTimer } }

/-- FRAME_END (R64): the frame on the send pair, or its ABORT, ends (R69, log 9). -/
def execFrameEnd (s : State) : Host.Outcome State Fault Refusal :=
  .next (if s.tx.serializer = .free then s else finish (frameEnded s))

/-- PULSE_TIMER_EXPIRY (R66): a PULSE becomes due. -/
def execPulseTimerExpiry (s : State) : Host.Outcome State Fault Refusal :=
  .next
    (if s.tx.pulseTimer.isSome then
      finish { s with tx := { s.tx with pulseTimer := none, pulseDue := true } }
    else s)

/-- HELLO_INTERVAL_EXPIRY (R77): a HELLO becomes due. -/
def execHelloIntervalExpiry (s : State) : Host.Outcome State Fault Refusal :=
  .next
    (if s.pair.helloTimer.isSome then
      finish
        { s with
          pair := { s.pair with helloTimer := none }
          tx := { s.tx with helloDue := true } }
    else s)

end Sys2Proof.Machine
end

