-- ==== Sys2Proof/Machine/PairingSide.lean ====
section
/-! DEFINITION. The pairing controller's and the replay list's events: HELLO_RECEIVED, PULSE_RECEIVED,
ACK_RECEIVED, NAK_RECEIVED, RETRY_TIMER_EXPIRY, LOSS_TIMER_EXPIRY, PROMOTE_TIMER_EXPIRY,
DRAIN_TIMER_EXPIRY, HANDOVER_MARKER_APPEND. -/

namespace Sys2Proof.Machine

/-! ### The partner view (R80) -/

/-- The partner view with the values of a HELLO (R80). -/
def viewOfHello (h : Hello) : PartnerView where
  heard := true
  role := h.role
  consistency := h.consistency
  epoch := h.epoch
  seq := h.seqB
  streamOpen := h.streamOpen
  digest := h.digest

/-- The partner view with the values of a PULSE; stream open and digest stay (R80). -/
def viewOfPulse (p : Pulse) (old : PartnerView) : PartnerView :=
  { old with heard := true, role := p.role, consistency := p.consistency, epoch := p.epoch, seq := p.seq }

/-- The partner view takes its values; the walker pauses when the partner is no STANDBY (R80, R124). -/
def setPartner (v : PartnerView) (s : State) : State :=
  let t := { s with pair := { s.pair with partner := v } }
  if v.role = .standby then t else pauseWalker t

/-- The fall of a standby partner to INCONSISTENT, judged once the frame's effects have been taken
(R84; log 16). `old` is the partner view before the frame. -/
def judgeFall (old : PartnerView) (role : Role) (c : Consistency) (s : State) : State :=
  if role = .standby ∧ c = .inconsistent ∧ old.role = .standby ∧ old.consistency ≠ .inconsistent
      ∧ takesAcks s then
    raise .partnerInconsistent s
  else s

/-! ### HELLO (R78, R83, R92) -/

/-- A HELLO that reports the handover's new epoch completes a committed handover (R92). -/
def completeByHello (h : Hello) (s : State) : State :=
  match handoverIn s.list.records with
  | some (epoch, seq) =>
      if handoverRunning s ∧ s.mgmt.result.detail = .committed ∧ h.role = .active
          ∧ h.epoch = some epoch then
        handoverComplete .confirmed epoch seq s
      else s
  | none => s

/-- The held record is abandoned: no further word is issued (R110, R112, R153). -/
def abandonHeld (s : State) : State :=
  if s.apply.held.isSome then withdrawInternal { s with apply := { s.apply with held := none } } else s

/-- The stale-epoch guard (R83, R112). -/
def staleGuard (h : Hello) (s : State) : State :=
  if s.pair.role = .standby ∧ s.apply.heldEpoch.isSome ∧ h.role = .active ∧ h.streamOpen = false then
    let t := abandonHeld s
    { t with apply := { t.apply with heldEpoch := none, consistency := .inconsistent } }
  else s

/-- The effect of a HELLO on the link state, by the state the HELLO found (R78; log 15). -/
def helloEffect (found : LinkState) (h : Hello) (s : State) : State :=
  match found with
  | .off => s
  | .down => enterLink .handshake s
  | .handshake =>
      if h.seen then checkHandshake h.digest h.role s
      else { s with tx := { s.tx with helloDue := true } }
  | .up => leaveUp .handshake s
  | .conflict => if h.seen then checkHandshake h.digest h.role s else enterLink .handshake s
  | .mismatch => if h.seen then checkHandshake h.digest h.role s else enterLink .handshake s

/-- A HELLO handed to the pairing controller (R78). -/
def takeHello (h : Hello) (s : State) : State :=
  let completed := completeByHello h s
  let viewed := staleGuard h (setPartner (viewOfHello h) completed)
  judgeFall s.pair.partner h.role h.consistency (helloEffect s.pair.link h viewed)

/-- HELLO_RECEIVED (R78): the oldest frame of the receive buffer is a HELLO. -/
def execHelloReceived (s : State) : Host.Outcome State Fault Refusal :=
  .next
    (match s.rx.buffer with
    | .hello h :: _ => finish (takeHello h (dropOldest s))
    | _ => s)

/-! ### PULSE (R35, R80) -/

/-- A PULSE in HANDSHAKE is judged as a HELLO, but only a judgement of UP is taken (R80). -/
def pulseInHandshake (p : Pulse) (s : State) : State :=
  if judgePartner s.pair.partner.digest p.role s = .up then enterUp s else s

/-- A PULSE of a STANDBY partner that holds the current epoch acts as an ACK (R35). -/
def pulseAsAck (p : Pulse) (s : State) : State :=
  if p.role = .standby ∧ p.epoch = some s.stream.epoch then takeAck p.seq s else s

/-- The effect of a PULSE by the link state it found (R80). -/
def pulseEffect (found : LinkState) (p : Pulse) (s : State) : State :=
  match found with
  | .handshake => pulseInHandshake p s
  | .up => pulseAsAck p s
  | _ => s

/-- A PULSE handed to the pairing controller (R80). -/
def takePulse (p : Pulse) (s : State) : State :=
  let viewed := setPartner (viewOfPulse p s.pair.partner) s
  judgeFall s.pair.partner p.role p.consistency (pulseEffect s.pair.link p viewed)

/-- PULSE_RECEIVED (R80): the oldest frame of the receive buffer is a PULSE. -/
def execPulseReceived (s : State) : Host.Outcome State Fault Refusal :=
  .next
    (match s.rx.buffer with
    | .pulse p :: _ => finish (takePulse p (dropOldest s))
    | _ => s)

/-! ### ACK and NAK (R33, R36) -/

/-- ACK_RECEIVED (R33): the oldest frame is an ACK and the unit is ACTIVE (R63). -/
def execAckReceived (s : State) : Host.Outcome State Fault Refusal :=
  .next
    (match s.rx.buffer with
    | .ack n :: _ => if s.pair.role = .active then finish (takeAck n (dropOldest s)) else s
    | _ => s)

/-- NAK_RECEIVED (R36): the oldest frame is a NAK and the unit is ACTIVE (R63). -/
def execNakReceived (s : State) : Host.Outcome State Fault Refusal :=
  .next
    (match s.rx.buffer with
    | .nak n :: _ => if s.pair.role = .active then finish (takeNak n (dropOldest s)) else s
    | _ => s)

/-! ### Expiries -/

/-- The link leaves UP for DOWN with LINK_LOST (R81). -/
def loseLink (s : State) : State := raise .linkLost (leaveUp .down s)

/-- The retry timer has expired: every SENT record returns to PENDING, the retry count rises, and at the
retry limit the link is lost (R38). -/
def retryExpired (s : State) : State :=
  let count := s.list.retryCount + 1
  let t := { s with list := { s.list with
    records := unsend s.list.records, retryTimer := none, retryCount := count } }
  if count < s.cfg.retryLimit.toNat then t else loseLink t

/-- RETRY_TIMER_EXPIRY (R38); the timer runs only while the link is UP (R37). -/
def execRetryTimerExpiry (s : State) : Host.Outcome State Fault Refusal :=
  .next
    (if s.list.retryTimer.isSome ∧ s.pair.link = .up then finish (retryExpired s) else s)

/-- LOSS_TIMER_EXPIRY (R82). -/
def execLossTimerExpiry (s : State) : Host.Outcome State Fault Refusal :=
  .next
    (if s.pair.lossTimer.isSome then
      match s.pair.link with
      | .up => finish (loseLink s)
      | .handshake => finish (enterLink .down s)
      | .conflict => finish (enterLink .down s)
      | .mismatch => finish (enterLink .down s)
      | .off => s
      | .down => s
    else s)

/-- The promote timer has expired: the unit promotes itself if it is a CONSISTENT standby and the link is
not UP, and declines otherwise (R89). -/
def promoteExpired (s : State) : State :=
  let t := { s with pair := { s.pair with promoteTimer := none } }
  if t.pair.role = .standby ∧ t.apply.consistency = .consistent ∧ t.pair.link ≠ .up then
    promote { t with events := { t.events with autoPromote := .promoted } }
  else { t with events := { t.events with autoPromote := .declined } }

/-- PROMOTE_TIMER_EXPIRY (R89). -/
def execPromoteTimerExpiry (s : State) : Host.Outcome State Fault Refusal :=
  .next (if s.pair.promoteTimer.isSome then finish (promoteExpired s) else s)

/-- A handover is in its drain phase (R91). -/
def inDrainPhase (s : State) : Bool := handoverRunning s && s.mgmt.result.detail == .drain

/-- DRAIN_TIMER_EXPIRY (R91): in the drain phase the handover ends with DRAIN_TIMEOUT. -/
def execDrainTimerExpiry (s : State) : Host.Outcome State Fault Refusal :=
  .next
    (if s.pair.drainTimer.isSome ∧ inDrainPhase s then finish (handoverCancel .drainTimeout s) else s)

/-- The HANDOVER record is appended with the next epoch; the drain timer stops and the phase becomes
marked (R27, R91). -/
def appendHandover (s : State) : State :=
  { s with
    list := addRecord (.handoverMark (s.stream.epoch + 1#16)) .pending false s.list
    pair := { s.pair with drainTimer := none }
    mgmt := { s.mgmt with result := { s.mgmt.result with detail := .marked } } }

/-- HANDOVER_MARKER_APPEND (R91): in the drain phase the list holds no record and no reservation. -/
def execHandoverMarkerAppend (s : State) : Host.Outcome State Fault Refusal :=
  .next
    (if inDrainPhase s ∧ s.stream.mode = .draining ∧ occupancy s.list = 0 then finish (appendHandover s)
    else s)

end Sys2Proof.Machine
end

