-- ==== Sys2Proof/Machine/Resets.lean ====
section
/-! DEFINITION. The resets and the ends of a load: COLD_RESET, COLD_RESET_END, WARM_RESET,
WARM_RESET_END, LOAD_COMMIT, LOAD_FAIL. -/

namespace Sys2Proof.Machine

/-- COLD_RESET (R185): every block takes its cold reset value and holds it; a request in progress gets
no response, a memory transaction is abandoned (R155), a frame is cut off without ABORT (R69). -/
def execColdReset (s : State) : Host.Outcome State Fault Refusal :=
  .next { State.reset with pending := s.pending, wrst := s.wrst }

/-- The loader at the end of a cold reset: LOADING by LOAD_EN high, the read waiting for the release of
WRST; SKIPPED by LOAD_EN low (R185). -/
def startLoader (loadEn wrst : Bool) : Loader :=
  if loadEn then
    if wrst then { beginLoad Loader.reset with reading := false, portOut := [] } else beginLoad Loader.reset
  else endLoad .skipped 0#8

/-- The unit at the release of RESET, with the straps sampled (R169, R185). -/
def coldStart (addr : BitVec 2) (loadEn : Bool) (s : State) : State :=
  { State.reset with
    pending := s.pending
    wrst := s.wrst
    phase := .running
    loader := startLoader loadEn s.wrst
    mgmt := { MgmtPort.reset with strapAddr := addr, strapLoadEn := loadEn } }

/-- COLD_RESET_END (R185): only while the unit is held in cold reset (log 2). LOAD_END is raised where
LOAD_EN is low (R187). -/
def execColdResetEnd (addr : BitVec 2) (loadEn : Bool) (s : State) :
    Host.Outcome State Fault Refusal :=
  .next
    (if s.phase = .cold then
      let t := coldStart addr loadEn s
      if loadEn then t else raise .loadEnd t
    else s)

/-- WARM_RESET (R186): the assertion of WRST. Ignored while RESET is asserted (R185); a second assertion
is part of the same reset. -/
def execWarmReset (s : State) : Host.Outcome State Fault Refusal :=
  .next
    (if s.wrst then s
    else if s.phase = .cold then { s with wrst := true }
    else
      let t := warmEffects s
      { t with phase := .warm, wrst := true })

/-- WARM_RESET_END (R186): the release of WRST. It ends a warm reset; after a cold reset that ended with
WRST asserted it lets a load begin (R185). -/
def execWarmResetEnd (s : State) : Host.Outcome State Fault Refusal :=
  .next
    (if s.wrst then
      let t := { s with wrst := false }
      match s.phase with
      | .cold => t
      | .warm => warmEnd t
      | .running =>
          if s.loader.state = .loading ∧ !s.loader.reading then
            { t with loader := beginLoad t.loader }
          else t
    else s)

/-- LOAD_COMMIT (R192): the image is read, checked and staged, and the load commits. Only while the
loader reads, and only for an image that commits (log 2). -/
def execLoadCommit (image : List Bool) (s : State) : Host.Outcome State Fault Refusal :=
  .next
    (if isLoading s then
      match judgeImage s.cfg image with
      | .commits staging => finish (commitLoad staging s)
      | _ => s
    else s)

/-- LOAD_FAIL (R193): the load ends ABSENT or FAILED. Only while the loader reads, and only for an image
that does not commit (log 2). -/
def execLoadFail (image : List Bool) (s : State) : Host.Outcome State Fault Refusal :=
  .next
    (if isLoading s then
      match judgeImage s.cfg image with
      | .absent => failLoad .absent 0#8 .absent s
      | .failed index => failLoad .failed index .failed s
      | .commits _ => s
    else s)

end Sys2Proof.Machine
end

