-- ==== Sys2Proof/Machine/Applying.lean ====
section
/-! DEFINITION. The apply engine's events: RECORD_TAKEN and APPLY_WRITE_ANSWER (chapter The Apply
Engine). -/

namespace Sys2Proof.Machine

/-! ### Consistency (R101, R107) -/

/-- The consistency after a BEGIN, by its scope and the consistency before (R101). -/
def afterBegin (scope : Scope) (before : Consistency) : Consistency :=
  match scope, before with
  | .full, _ => .resyncing
  | .partialScope, .inconsistent => .inconsistent
  | .partialScope, _ => .resyncing

/-- The consistency after an END (R107). -/
def afterEnd : Consistency → Consistency
  | .resyncing => .consistent
  | other => other

/-! ### Ends of a record -/

/-- A record has been applied in turn: the expected sequence rises by one, gap reported becomes no, and an
ACK is asked for (R105, R107). -/
def recordApplied (s : State) : State :=
  askAck { s with apply := { s.apply with
    held := none, expected := s.apply.expected + 1#16, gap := false } }

/-- An apply fault ends the record as applied (R106, R113). -/
def applyFault (cause : FaultCause) (seq : Half) (addr : WordAddr) (s : State) : State :=
  let t := recordApplied s
  raise .applyFault
    { t with apply := { t.apply with
        consistency := .inconsistent, lastFault := { cause := cause, seq := seq, addr := addr } } }

/-! ### Taking a record (R99 to R104, R107, R108) -/

/-- A BEGIN of a new epoch is accepted whatever its sequence (R101). -/
def acceptBegin (seq epoch : Half) (scope : Scope) (s : State) : State :=
  askAck { s with apply := { s.apply with
    heldEpoch := some epoch
    expected := seq + 1#16
    gap := false
    consistency := afterBegin scope s.apply.consistency } }

/-- The region check: the named entry is enabled and every word lies within its region (R104). -/
def regionCheck (table : Vector RegionEntry 16) (region : BitVec 4) (start : WordAddr) (count : Nat) :
    Bool :=
  let e := regionAt table region
  e.enabled && regionHas e start.byte && decide (start.byte + 4 * count ≤ regionBase e + regionLength e)

/-- The next word of the held record is asked for, or the record has been applied whole (R105). -/
def issueWord (h : HeldRecord) (s : State) : State :=
  match h.words[h.next]? with
  | some w => askInternal (wordWrite h w) { s with apply := { s.apply with held := some h } }
  | none => recordApplied s

/-- A WRITE or SYNC record in turn (R104). -/
def applyData (seq : Half) (region : BitVec 4) (start : WordAddr) (words : List DataWord) (s : State) :
    State :=
  if regionCheck s.cfg.regions region start words.length then
    issueWord { seq := seq, start := start, words := words, next := 0 } s
  else applyFault .regionCheck seq start s

/-- A HANDOVER record in turn: the handover is pending until the unit takes the role, at once when the link
is not UP (R108). -/
def applyHandover (seq epoch : Half) (s : State) : State :=
  let t := recordApplied s
  let t := { t with apply := { t.apply with handoverPending := some (epoch, seq) } }
  if t.pair.link = .up then t else takeHandoverRole t

/-- A record in turn is applied by its kind (R104 to R108). -/
def applyInTurn (seq : Half) (body : RecordBody) (s : State) : State :=
  match body with
  | .data _ region start words => applyData seq region start words s
  | .beginMark _ scope =>
      recordApplied { s with apply := { s.apply with
        consistency := afterBegin scope s.apply.consistency } }
  | .endMark =>
      recordApplied { s with apply := { s.apply with consistency := afterEnd s.apply.consistency } }
  | .handoverMark epoch => applyHandover seq epoch s

/-- A record out of turn: a NAK is asked for unless a gap is already reported (R103). -/
def outOfTurn (s : State) : State :=
  if s.apply.gap then s else askNak { s with apply := { s.apply with gap := true } }

/-- A record that is no BEGIN of a new epoch, judged by its sequence (R100 cases 3 to 5; log 7). -/
def judgeSequence (seq : Half) (body : RecordBody) (s : State) : State :=
  if seq = s.apply.expected then applyInTurn seq body s
  else if behind seq s.apply.expected then askAck s
  else outOfTurn s

/-- A record is judged by the first case that fits it (R100). -/
def judgeRecord (seq : Half) (body : RecordBody) (s : State) : State :=
  match body, s.apply.heldEpoch with
  | .beginMark epoch scope, none => acceptBegin seq epoch scope s
  | .beginMark epoch scope, some held =>
      if epoch = held then judgeSequence seq body s else acceptBegin seq epoch scope s
  | _, none => s
  | _, some _ => judgeSequence seq body s

/-- The engine can take a record: STANDBY, none held, no handover pending (R97, R99). -/
def engineFree (s : State) : Bool :=
  s.pair.role == .standby && s.apply.held.isNone && s.apply.handoverPending.isNone

/-- RECORD_TAKEN (R100): the free engine takes the oldest frame, a RECORD. -/
def execRecordTaken (s : State) : Host.Outcome State Fault Refusal :=
  .next
    (match s.rx.buffer with
    | .record seq body :: _ => if engineFree s then finish (judgeRecord seq body (dropOldest s)) else s
    | _ => s)

/-! ### Memory's answer (R105, R106) -/

/-- Memory's answer to a word of the held record (R105, R106). -/
def applyAnswer (answer : MemAnswer) (h : HeldRecord) (s : State) : State :=
  match answer with
  | .ok _ => issueWord { h with next := h.next + 1 } s
  | .fault => applyFault .memory h.seq (wordAfter h.start h.next) s

/-- APPLY_WRITE_ANSWER (R105): a disowned answer is discarded (R153). -/
def execApplyWriteAnswer (answer : MemAnswer) (s : State) : Host.Outcome State Fault Refusal :=
  .next
    (match s.mem.bus with
    | some (.internal (.applyWrite _ _ _) disowned) =>
        match disowned, s.apply.held with
        | false, some h => finish (applyAnswer answer h (freeBus s))
        | _, _ => discardAnswer s
    | _ => s)

end Sys2Proof.Machine
end

