-- ==== Sys2Proof/Machine/Resyncing.lean ====
section
/-! DEFINITION. The resync walker's events and the auto-resync reflex: MARKER_APPEND, WALKER_TAKE_BLOCK,
WALKER_OPEN_SYNC, WALKER_READ_ANSWER, AUTO_RESYNC_TAKEN (chapters The Replay List, Dirty Tracking and
Resynchronization, Events). -/

namespace Sys2Proof.Machine

/-- MARKER_APPEND (R27): the waiting marker takes an entry that the host path does not wait for (R28). -/
def execMarkerAppend (s : State) : Host.Outcome State Fault Refusal :=
  .next
    (match s.list.waitingMarker with
    | some body =>
        if markerMayTake s then
          finish { s with list := addRecord body .pending false { s.list with waitingMarker := none } }
        else s
    | none => s)

/-! ### Taking a block (R125, R128) -/

/-- The walker is RUNNING with no block taken (R125). -/
def walkerSearches (s : State) : Bool := s.walker.run == .running && !s.walker.taken

/-- A marked block is taken: its mark is cleared, and the walker passes over its chunks that are not
mirrored (R125, R126). -/
def takeBlock (b : Nat) (s : State) : State :=
  walkerGoOn
    { s with
      dirty := s.dirty.erase b
      walker := { s.walker with cursor := b, taken := true, nextChunk := 0 } }

/-- No marked block remains at or above the cursor: FINISHED, and the END is asked for (R128; logs 12, 17, 34). -/
def finishWalk (s : State) : State :=
  askMarker .endMark { s with walker := { s.walker with run := .finished } }

/-- WALKER_TAKE_BLOCK (R125): the lowest marked block at or above the cursor is taken, or the walk is
over. -/
def execWalkerTakeBlock (s : State) : Host.Outcome State Fault Refusal :=
  .next
    (if walkerSearches s then
      match s.dirty.find? fun b => decide (s.walker.cursor ≤ b) with
      | some b => takeBlock b s
      | none => finish (finishWalk s)
    else s)

/-! ### Opening and filling a SYNC record (R126, R127) -/

/-- The SYNC record of the walker's current chunk, no words read yet (R126). -/
def syncBody (s : State) : RecordBody :=
  .data .sync ((regionIndexAt s.cfg.regions (chunkStart s.walker).byte).getD 0#4) (chunkStart s.walker) []

/-- The walker asks the list for an entry: RUNNING, a block taken, no pause due, no SYNC record open
(R124, R126). -/
def walkerAsks (s : State) : Bool :=
  s.walker.run == .running && s.walker.taken && !s.walker.pauseDue && !fillsSync s.list
    && decide (s.walker.nextChunk < Config.chunksPerBlock)

/-- The walker opens a SYNC record: the open WRITE record closes first, and the first word is asked for
(R126, R127). -/
def openSync (s : State) : State :=
  askInternal (.walkerRead (chunkStart s.walker))
    { s with list := addRecord (syncBody s) .opened false (closeWrite s.list) }

/-- WALKER_OPEN_SYNC (R126): an entry is free beyond those the host path and a marker wait for (R28). -/
def execWalkerOpenSync (s : State) : Host.Outcome State Fault Refusal :=
  .next (if walkerAsks s && walkerMayTake s then finish (openSync s) else s)

/-- The word read is appended to the open SYNC record, which becomes PENDING at its sixteenth (R127). -/
def fillSync (data : Word) (l : ReplayList) : ReplayList :=
  let last := decide (syncWords l + 1 = Config.wordsPerChunk)
  { l with records := l.records.map fun r =>
      if isOpenSync r then
        { r with
          body := appendWord { mask := fullMask, data := data } r.body
          state := if last then .pending else .opened }
      else r }

/-- The chunk is closed: a due pause is taken, otherwise the walker goes on; the block is finished after
chunk 63 (R124, R127, R128). DESIGN CHOICE: after its last block the walker stays RUNNING with no block taken, and
the search that finds no block, and makes it FINISHED, is the next WALKER_TAKE_BLOCK (log 34). -/
def chunkClosed (s : State) : State :=
  let w := { s.walker with nextChunk := s.walker.nextChunk + 1 }
  let w := if w.nextChunk < Config.chunksPerBlock then w else finishBlock w
  if w.pauseDue then { s with walker := { w with run := .paused, pauseDue := false } }
  else walkerGoOn { s with walker := w }

/-- Memory's OK to a walker read (R127). -/
def walkerRead (data : Word) (s : State) : State :=
  let read := syncWords s.list + 1
  let t := { s with list := fillSync data s.list }
  if read < Config.wordsPerChunk then
    askInternal (.walkerRead (wordAfter (chunkStart s.walker) read)) t
  else chunkClosed t

/-- WALKER_READ_ANSWER (R127): a disowned answer is discarded (R130, R153). -/
def execWalkerReadAnswer (answer : MemAnswer) (s : State) : Host.Outcome State Fault Refusal :=
  .next
    (match s.mem.bus with
    | some (.internal (.walkerRead _) disowned) =>
        if disowned then discardAnswer s
        else
          match answer with
          | .ok data => finish (walkerRead data (freeBus s))
          | .fault => finish (resyncAbandon (freeBus s))
    | _ => s)

/-! ### Auto-resync (R136, R165) -/

/-- Set the auto-resync part of REFLEX_STATUS (R166). -/
def setAutoResync (a : AutoResync) (s : State) : State :=
  { s with events := { s.events with autoResync := a } }

/-- The reflex acts by the stream mode at this moment (R136, R165). -/
def autoResync (s : State) : State :=
  match s.stream.mode with
  | .normal => setAutoResync .started (resyncStart s)
  | .resync => setAutoResync .replaced (resyncStart s)
  | .draining =>
      if s.mgmt.result.detail = .committed then setAutoResync .noEffect s
      else
        setAutoResync .handoverCancelled (resyncStart (handoverCancel .partnerInconsistent s))
  | .closed => setAutoResync .noEffect s
  | .tracking => setAutoResync .noEffect s

/-- AUTO_RESYNC_TAKEN (R165): the resync block takes the request. -/
def execAutoResyncTaken (s : State) : Host.Outcome State Fault Refusal :=
  .next
    (if s.walker.autoRequest then
      finish (autoResync { s with walker := { s.walker with autoRequest := false } })
    else s)

end Sys2Proof.Machine
end

