-- ==== Sys2Proof/Machine/Dispatch.lean ====
section
/-! DEFINITION. One arm per command: each a direct call of its meaning. -/

namespace Sys2Proof.Machine

def exec (i : Instr) (s : State) : Host.Outcome State Fault Refusal :=
  match i with
  | .coldReset => Sys2Proof.Machine.execColdReset s
  | .coldResetEnd addr e => Sys2Proof.Machine.execColdResetEnd addr e s
  | .warmReset => Sys2Proof.Machine.execWarmReset s
  | .warmResetEnd => Sys2Proof.Machine.execWarmResetEnd s
  | .loadCommit image => Sys2Proof.Machine.execLoadCommit image s
  | .loadFail image => Sys2Proof.Machine.execLoadFail image s
  | .hostRequest kind addr lanes data => Sys2Proof.Machine.execHostRequest kind addr lanes data s
  | .memoryGrant => Sys2Proof.Machine.execMemoryGrant s
  | .hostMemoryAnswer a => Sys2Proof.Machine.execHostMemoryAnswer a s
  | .coalesceTimerExpiry => Sys2Proof.Machine.execCoalesceTimerExpiry s
  | .holdReserved => Sys2Proof.Machine.execHoldReserved s
  | .holdTimerExpiry => Sys2Proof.Machine.execHoldTimerExpiry s
  | .confirmTimerExpiry => Sys2Proof.Machine.execConfirmTimerExpiry s
  | .linkCharacter bits => Sys2Proof.Machine.execLinkCharacter bits s
  | .helloReceived => Sys2Proof.Machine.execHelloReceived s
  | .pulseReceived => Sys2Proof.Machine.execPulseReceived s
  | .ackReceived => Sys2Proof.Machine.execAckReceived s
  | .nakReceived => Sys2Proof.Machine.execNakReceived s
  | .frameDiscarded => Sys2Proof.Machine.execFrameDiscarded s
  | .recordTaken => Sys2Proof.Machine.execRecordTaken s
  | .applyWriteAnswer a => Sys2Proof.Machine.execApplyWriteAnswer a s
  | .frameEnd => Sys2Proof.Machine.execFrameEnd s
  | .pulseTimerExpiry => Sys2Proof.Machine.execPulseTimerExpiry s
  | .helloIntervalExpiry => Sys2Proof.Machine.execHelloIntervalExpiry s
  | .retryTimerExpiry => Sys2Proof.Machine.execRetryTimerExpiry s
  | .lossTimerExpiry => Sys2Proof.Machine.execLossTimerExpiry s
  | .promoteTimerExpiry => Sys2Proof.Machine.execPromoteTimerExpiry s
  | .drainTimerExpiry => Sys2Proof.Machine.execDrainTimerExpiry s
  | .handoverMarkerAppend => Sys2Proof.Machine.execHandoverMarkerAppend s
  | .markerAppend => Sys2Proof.Machine.execMarkerAppend s
  | .walkerTakeBlock => Sys2Proof.Machine.execWalkerTakeBlock s
  | .walkerOpenSync => Sys2Proof.Machine.execWalkerOpenSync s
  | .walkerReadAnswer a => Sys2Proof.Machine.execWalkerReadAnswer a s
  | .autoResyncTaken => Sys2Proof.Machine.execAutoResyncTaken s
  | .setActive t => Sys2Proof.Machine.execSetActive t s
  | .setStandby t => Sys2Proof.Machine.execSetStandby t s
  | .setNone t => Sys2Proof.Machine.execSetNone t s
  | .handover t => Sys2Proof.Machine.execHandover t s
  | .resync t => Sys2Proof.Machine.execResync t s
  | .restart t => Sys2Proof.Machine.execRestart t s
  | .reload t => Sys2Proof.Machine.execReload t s
  | .clearCounters t => Sys2Proof.Machine.execClearCounters t s
  | .eventClear t d => Sys2Proof.Machine.execEventClear t d s
  | .eventRoutes t d => Sys2Proof.Machine.execEventRoutes t d s
  | .linkControl t d => Sys2Proof.Machine.execLinkControl t d s
  | .regionSpan t n d => Sys2Proof.Machine.execRegionSpan t n d s
  | .regionMode t n d => Sys2Proof.Machine.execRegionMode t n d s
  | .itemWrite t item d => Sys2Proof.Machine.execItemWrite t item d s
  | .itemSelect t item => Sys2Proof.Machine.execItemSelect t item s
  | .shortWrite t item data => Sys2Proof.Machine.execShortWrite t item data s
  | .receiverResumesHunting => Sys2Proof.Machine.execReceiverResumesHunting s
  | .itemRead t k => Sys2Proof.Machine.execItemRead t k s

end Sys2Proof.Machine
end

