-- ==== Sys2Proof/Safety.lean ====
section
/-! DEFINITION. What the claims call sound: the properties that the manual gives every state of the unit,
as decidable tests on plain data. -/

namespace Sys2Proof.Safety

open Sys2Proof.Machine

/-- The ALERT line is asserted exactly when a flag whose route is ALERT is set (R161). -/
def alertExact (s : State) : Bool := s.events.alert == alertCondition s.events.flags s.cfg.routes

/-- A list of block numbers in strictly rising order. -/
def rising : List Nat → Bool
  | [] => true
  | [_] => true
  | a :: b :: rest => decide (a < b) && rising (b :: rest)

/-- The dirty map in its canonical form: the marked blocks, each once, in rising order, all of them blocks of
the address space (R115). -/
def dirtyWf (marks : List Nat) : Bool := rising marks && marks.all fun b => decide (b < Config.blocks)

/-- Records stand in the order of consecutive sequence numbers that end below the next sequence (R23, R26). -/
def numbered (next : Half) : List Rec → Bool
  | [] => true
  | r :: rest => r.seq + BitVec.ofNat 16 (rest.length + 1) == next && numbered next rest

/-- Every SENT record is older than every record that is not (R30). -/
def sentFirst : List Rec → Bool
  | [] => true
  | r :: rest => if isSent r then sentFirst rest else rest.all fun x => !isSent x

/-- The replay list: at most 64 entries occupied, numbered consecutively, SENT records oldest, at most one
OPEN WRITE and one OPEN SYNC record (R23, R25, R26, R30). -/
def listWf (l : ReplayList) : Bool :=
  decide (occupancy l ≤ Config.listEntries) && numbered l.nextSeq l.records && sentFirst l.records
    && decide (l.records.countP isOpenWrite ≤ 1) && decide (l.records.countP isOpenSync ≤ 1)

/-- A unit that is not ACTIVE keeps no record, no reservation, no waiting marker and no mark, its stream is
closed and its walker stopped (R73, R75, R115, R137). -/
def inactiveEmpty (s : State) : Bool :=
  s.pair.role == .active
    || (s.list.records.isEmpty && !s.list.reserved && s.list.waitingMarker.isNone && s.dirty.isEmpty
        && s.stream.mode == .closed && !s.stream.isOpen && !s.stream.basisValid
        && s.walker.run == .stopped && !s.walker.taken && !s.walker.autoRequest)

/-- A unit that is not STANDBY holds no epoch, no record and no handover, and asks for no acknowledgement
(R67, R98). -/
def standbyOnly (s : State) : Bool :=
  s.pair.role == .standby
    || (s.apply.consistency == .inconsistent && s.apply.heldEpoch.isNone && s.apply.held.isNone
        && s.apply.handoverPending.isNone && s.apply.expected == 0#16 && s.tx.ackRequest == .none)

/-- The receive buffer holds at most four frames; a frame being collected holds at most 82 data characters, and
its running CRC is that of its type code and them (R58, R59, R62). -/
def rxWf (rx : LinkRx) : Bool :=
  decide (rx.buffer.length ≤ Config.rxSlots) &&
    match rx.assembler with
    | .inFrame t data crc =>
        decide (data.length ≤ Config.maxDataChars) && crc == crc16 (sofCode t :: data)
    | _ => true

/-- The fairness count is at most 4, and 0 while no internal request waits (R152, R153). -/
def fairnessWf (m : MemPort) : Bool :=
  decide (m.fairness ≤ Config.fairnessLimit) && (m.waiting.isSome || m.fairness == 0)

/-- The internal requester has at most one request waiting or in progress (R151). -/
def oneInternal (m : MemPort) : Bool := !(internalBusy m && m.waiting.isSome)

/-- While the load state is LOADING the role is NONE (R194). -/
def loadingIsNone (s : State) : Bool := s.loader.state != .loading || s.pair.role == .none

/-- Some frame is ready (R64). -/
def frameReady (s : State) : Bool :=
  s.tx.helloDue || ackReady s || (offeredRecord s).isSome || pulseReady s

/-- The scheduler has nothing left to start: no free serializer stands beside a ready frame (R64). -/
def settled (s : State) : Bool := !(mayStart s && frameReady s)

/-- The SENT count never exceeds the window (R30). -/
def windowKept (s : State) : Bool := decide (sentCount s.list ≤ s.cfg.window.toNat)

/-! ### The joint invariant -/

/-- The role is NONE while a reset lasts (R73, R185, R186). -/
def resetIsNone (s : State) : Bool := s.phase == .running || s.pair.role == .none

/-- A HANDOVER is in progress only on an ACTIVE unit (R90, R92). -/
def handoverIsActive (s : State) : Bool := !handoverRunning s || s.pair.role == .active

/-- A write is held only on an ACTIVE unit (R144, R146). -/
def heldIsActive (s : State) : Bool :=
  match s.host.port with
  | .held _ _ _ _ => s.pair.role == .active
  | _ => true

/-- A walker read waits, or is in progress and not disowned, only on an ACTIVE unit (R124, R153). -/
def walkerReadIsActive (s : State) : Bool :=
  s.pair.role == .active ||
    (match s.mem.waiting with
      | some (.walkerRead _) => false
      | _ => true)
    && (match s.mem.bus with
      | some (.internal (.walkerRead _) false) => false
      | _ => true)

/-- A taken block is a block of the address space (R125). -/
def takenInside (w : Walker) : Bool := !w.taken || decide (w.cursor < Config.blocks)

/-- The properties that hold together in every state of the unit. -/
def sound (s : State) : Bool :=
  listWf s.list && windowKept s && inactiveEmpty s && standbyOnly s && loadingIsNone s && resetIsNone s
    && handoverIsActive s && heldIsActive s && walkerReadIsActive s && dirtyWf s.dirty && takenInside s.walker
    && rxWf s.rx && fairnessWf s.mem && oneInternal s.mem

/-! ### What an answer leaves -/

/-- What the answer of a disowned transaction leaves (R151, R153): the bus is free, the answer has no effect, and the
internal requester of the role, which may not ask before it, asks for the word it needs: the apply engine for the
next word of a held record, the walker for the next word of its open SYNC record. -/
def discarded (s t : State) : Prop :=
  let freed (waiting : Option InternalOp) : State := { s with mem := { s.mem with bus := none, waiting := waiting } }
  (∀ h w, s.pair.role = .standby → s.apply.held = some h → h.words[h.next]? = some w →
    t = freed (some (.applyWrite (BitVec.ofNat 22 (h.start.toNat + h.next)) w.mask w.data)))
  ∧ (∀ before r after region start words, s.pair.role = .active → s.list.records = before ++ r :: after →
    (∀ x ∈ before, isOpenSync x = false) → r.state = .opened → r.body = .data .sync region start words →
    t = freed (some (.walkerRead (BitVec.ofNat 22 (1024 * s.walker.cursor + 16 * s.walker.nextChunk + words.length)))))
  ∧ ((s.pair.role = .standby → s.apply.held = none) →
    (s.pair.role = .active → ∀ r ∈ s.list.records, isOpenSync r = false) → t = freed s.mem.waiting)

/-- The state of a list from whose oldest end records have been removed as ACK progress (R33, R37): retry count 0,
the retry timer restarted if a record is still SENT, a removed waiter answered OK. -/
def progressed (removed kept : List Rec) (s : State) : State :=
  let answers := removed.any (fun r => r.waiter) && isWithheld s
  { s with
    list := { s.list with
      records := if answers then clearWaiters kept else kept
      retryCount := 0
      retryTimer := if kept.any isSent then some s.cfg.retryTimeout.toNat else none
      coalesceTimer := if kept.any isOpenWrite then s.list.coalesceTimer else none }
    host := if answers then { s.host with port := .idle, response := some .writeOk, confirmTimer := none }
      else s.host }

/-- The records split where an answer `n` splits them: every removed record is behind `n`, the first kept one is
not (R33). -/
def splitAt (n : Half) (removed kept : List Rec) : Prop :=
  (∀ r ∈ removed, ahead n r.seq = true) ∧ ∀ r, kept.head? = some r → ahead n r.seq = false

/-- The greatest answer that can be right (R33, R34): the newest transmitted record's sequence + 1, or the oldest
sequence when no record has been transmitted. -/
def isBound (l : ReplayList) (bound : Half) : Prop :=
  (∃ before r after, l.records = before ++ r :: after ∧ r.transmitted = true
      ∧ (∀ x ∈ after, x.transmitted = false) ∧ bound = r.seq + 1#16)
    ∨ (∀ r ∈ l.records, r.transmitted = false) ∧ bound = oldestSeq l

/-- A late capture that finds no free entry: a spill, the write's block marked, and then the resync start that the
spill may cause (R17, R44, R45; log 10). -/
def lateSpill (block : Nat) (s : State) : State :=
  let spilled := spillCore s
  let marked : State := { spilled with dirty := markBlock block spilled.dirty }
  if s.pair.link = .up ∧ s.pair.partner.role = .standby then resyncStart marked else marked

/-! ### What the outside sends -/

/-- The five bytes of an image entry (11.3). -/
def entryBytes (e : Byte × Word) : List Byte := e.1 :: wordBytes e.2

/-- The bytes of the image of a list of entries: signature M, R, I, M, count, check, entries (11.3). -/
def imageOf (entries : List (Byte × Word)) : List Byte :=
  [0x4D#8, 0x52#8, 0x49#8, 0x4D#8] ++ halfBytes (BitVec.ofNat 16 entries.length)
    ++ halfBytes (crc16 (entries.flatMap entryBytes)) ++ entries.flatMap entryBytes

/-- A frame that its sender may form: a WRITE or SYNC record of 1 to 16 words within the address space, a SYNC
record of sixteen words with full masks (R24, R61); every frame of another kind. -/
def frameWf : Frame → Bool
  | .record _ (.data kind _ start words) =>
      decide (1 ≤ words.length) && decide (words.length ≤ 16)
        && decide (start.byte + 4 * words.length ≤ Config.addressSpace)
        && (kind == .write || (decide (words.length = 16) && words.all fun w => w.mask == fullMask))
  | _ => true

/-- The commands of a list, one after another. -/
def runAll : List Instr → State → Host.Outcome State Fault Refusal
  | [], s => .next s
  | c :: rest, s =>
      match exec c s with
      | .next t => runAll rest t
      | other => other

end Sys2Proof.Safety
end

