-- ==== Sys2Proof/Certificates/Slice0/Obligations.lean ====
section
/-! DEFINITION. The statements about the unit, from the numbered rules of the spec. Where a statement's state
is followed by `finish` or `schedule`, the step goes on as `HeldWriteSettles` and `SchedulerPrefers` say. -/

open Sys2Proof Sys2Proof.Machine Sys2Proof.Safety

/-! ### The step and what no step touches -/

/-- A step takes the command at the front of the queue and runs it on the state with the queue's rest
(95_what_each_step_holds.md, opening); with an empty queue the unit idles (the model's choice, log 1). -/
def Obligations.StepRunsTheFrontCommand : Prop :=
  (∀ (c : Instr) (rest : List Instr) (s : State),
      s.pending = c :: rest → step s = exec c { s with pending := rest })
    ∧ ∀ s : State, s.pending = [] → step s = .next s

/-- No command stops the unit, and none touches the commands that wait. The sampled straps change at no step but a
cold reset and its end (R169, R176); a configuration item at none but a write that names it, a commit and a cold
reset (R2, R174, R192); and while the role is ACTIVE or STANDBY the region table and the window stand still (R7,
R32), where the premise is the invariant that a loading unit's role is NONE (R194). -/
def Obligations.WhatNoCommandTouches : Prop :=
  (∀ (c : Instr) (s : State), ∃ t, exec c s = .next t ∧ t.pending = s.pending)
  ∧ (∀ (c : Instr) (s t : State), exec c s = .next t → c ≠ .coldReset → (∀ a e, c ≠ .coldResetEnd a e) →
    t.mgmt.strapAddr = s.mgmt.strapAddr ∧ t.mgmt.strapLoadEn = s.mgmt.strapLoadEn)
  ∧ (∀ (c : Instr) (s t : State), exec c s = .next t → t.cfg ≠ s.cfg →
    (∃ a v, c = .eventRoutes a v) ∨ (∃ a v, c = .linkControl a v) ∨ (∃ a n v, c = .regionSpan a n v)
      ∨ (∃ a n v, c = .regionMode a n v) ∨ (∃ a i v, c = .itemWrite a i v) ∨ (∃ image, c = .loadCommit image)
      ∨ c = .coldReset ∨ ∃ a e, c = .coldResetEnd a e)
  ∧ (∀ (c : Instr) (s t : State), exec c s = .next t → loadingIsNone s = true → s.pair.role ≠ .none →
    c ≠ .coldReset → (∀ a e, c ≠ .coldResetEnd a e) →
    t.cfg.regions = s.cfg.regions ∧ t.cfg.window = s.cfg.window)

/-! ### Resets -/

/-- A cold reset gives every block its cold reset value, whatever state it finds (R49, R72, R96, R114,
R138, R156, R168, R184, R197); the queue and the level of WRST are outside it.
The end of a cold reset samples the straps; by LOAD_EN the load state becomes LOADING, the read
beginning unless WRST is still asserted, or SKIPPED with LOAD_END (R169, R185). The role is NONE, the
link OFF, and every other block as the cold reset left it. -/
def Obligations.ColdResetAndItsEnd : Prop :=
  (∀ s : State, ∃ t, exec .coldReset s = .next t
    ∧ t.pending = s.pending ∧ t.wrst = s.wrst ∧ t.phase = .cold
    ∧ t.cfg = Settings.reset ∧ (∀ n : BitVec 4, regionAt t.cfg.regions n =
        { enabled := false, base := 0#16, countLess1 := 0#16, policy := .pass, guard := .opened })
    ∧ t.loader.reading = false ∧ t.loader.failIndex = 0#8
    ∧ t.host.port = .idle ∧ t.host.confirmTimer = none ∧ t.host.lastGuardAddr = 0#22
    ∧ t.mem = { bus := none, waiting := none, fairness := 0 }
    ∧ t.list.records = [] ∧ t.list.reserved = false ∧ t.list.nextSeq = 0#16 ∧ t.list.waitingMarker = none
    ∧ t.list.retryCount = 0 ∧ t.list.retryTimer = none ∧ t.list.holdTimer = none
    ∧ t.list.coalesceTimer = none ∧ t.list.retransmits = 0#16 ∧ t.list.holds = 0#16
    ∧ t.rx.receiver = .notWatching ∧ t.rx.assembler = .hunt ∧ t.rx.buffer = []
    ∧ t.rx.charErrors = 0#16 ∧ t.rx.badFrames = 0#16 ∧ t.rx.rxDrops = 0#16
    ∧ t.tx.serializer = .free ∧ t.tx.helloDue = false ∧ t.tx.ackRequest = .none
    ∧ t.tx.pulseDue = false ∧ t.tx.pulseTimer = none
    ∧ t.pair.role = .none ∧ t.pair.link = .off ∧ t.pair.partner = PartnerView.cleared
    ∧ t.pair.helloTimer = none ∧ t.pair.lossTimer = none ∧ t.pair.promoteTimer = none
    ∧ t.pair.drainTimer = none
    ∧ t.stream.mode = .closed ∧ t.stream.isOpen = false ∧ t.stream.epoch = 0#16
    ∧ t.stream.basisEpoch = 0#16 ∧ t.stream.basisValid = false
    ∧ t.apply.consistency = .inconsistent ∧ t.apply.heldEpoch = none ∧ t.apply.expected = 0#16
    ∧ t.apply.gap = false ∧ t.apply.held = none ∧ t.apply.handoverPending = none
    ∧ t.apply.lastFault = { cause := .none, seq := 0#16, addr := 0#22 }
    ∧ t.dirty = [] ∧ t.walker.run = .stopped ∧ t.walker.cursor = 0 ∧ t.walker.taken = false
    ∧ t.walker.nextChunk = 0 ∧ t.walker.outcome = .none ∧ t.walker.scope = .full
    ∧ t.walker.epoch = 0#16 ∧ t.walker.autoRequest = false
    ∧ t.events = { flags := 0#15, alert := false, autoPromote := .none, autoResync := .none }
    ∧ t.mgmt.selected = 0#8 ∧ t.mgmt.access = .ok ∧ t.mgmt.result = CmdResult.reset)
  ∧ (∀ (addr : BitVec 2) (loadEn : Bool) (s : State), s.phase = .cold →
    ∃ t, exec (.coldResetEnd addr loadEn) s = .next t
      ∧ t.phase = .running ∧ t.pending = s.pending ∧ t.wrst = s.wrst
      ∧ t.mgmt.strapAddr = addr ∧ t.mgmt.strapLoadEn = loadEn ∧ targetAddress t = 92 + addr.toNat
      ∧ t.mgmt.selected = 0#8 ∧ t.mgmt.access = .ok ∧ t.mgmt.result = CmdResult.reset
      ∧ t.cfg = Settings.reset ∧ t.pair = Pairing.reset ∧ t.stream = Stream.reset ∧ t.list = ReplayList.reset
      ∧ t.host = HostPort.reset ∧ t.mem = MemPort.reset ∧ t.rx = LinkRx.reset ∧ t.tx = LinkTx.reset
      ∧ t.apply = ApplyEngine.reset ∧ t.dirty = [] ∧ t.walker = Walker.reset
      ∧ t.loader.failIndex = 0#8 ∧ t.events.alert = false
      ∧ (if loadEn then
          t.loader.state = .loading ∧ t.events.flags = 0#15
            ∧ (s.wrst = false → t.loader.reading = true ∧ t.loader.portOut = bitsOfBytes [0x03#8, 0#8, 0#8])
            ∧ (s.wrst = true → t.loader.reading = false)
        else t.loader.state = .skipped ∧ t.loader.reading = false ∧ t.events.flags = 0x2000#15))

/-- A warm reset by WRST (R186): the configuration, the epoch counters and the straps are kept, a load in
progress is ended and stays LOADING (R195), a frame on the send pair is cut off by ABORT (R69), a held or
withheld request is answered FAULT and a forwarded one stays (R154), and every other block takes the warm
reset column of its chapter's table. A further assertion is part of the same reset. -/
def Obligations.WarmResetValues : Prop :=
  (∀ s : State, s.wrst = true → exec .warmReset s = .next s)
    ∧ ∀ s : State, s.wrst = false → s.phase ≠ .cold →
      ∃ t, exec .warmReset s = .next t
        ∧ t.pending = s.pending ∧ t.phase = .warm ∧ t.wrst = true ∧ t.cfg = s.cfg
        ∧ t.mgmt.strapAddr = s.mgmt.strapAddr ∧ t.mgmt.strapLoadEn = s.mgmt.strapLoadEn
        ∧ t.mgmt.selected = 0#8 ∧ t.mgmt.access = .ok ∧ t.mgmt.result = CmdResult.reset
        ∧ (s.loader.state ≠ .loading → t.loader = s.loader)
        ∧ (s.loader.state = .loading → t.loader.state = .loading ∧ t.loader.failIndex = 0#8
            ∧ t.loader.reading = false)
        ∧ t.list = ReplayList.reset ∧ t.rx = LinkRx.reset ∧ t.pair = Pairing.reset ∧ t.dirty = []
        ∧ t.apply = ApplyEngine.reset ∧ t.walker = Walker.reset ∧ t.events = EventUnit.reset
        ∧ t.stream.mode = .closed ∧ t.stream.isOpen = false ∧ t.stream.basisValid = false
        ∧ t.stream.epoch = s.stream.epoch ∧ t.stream.basisEpoch = s.stream.basisEpoch
        ∧ t.tx.helloDue = false ∧ t.tx.ackRequest = .none ∧ t.tx.pulseDue = false ∧ t.tx.pulseTimer = none
        ∧ (∀ f, s.tx.serializer = .sending f → t.tx.serializer = .aborting)
        ∧ (s.tx.serializer = .free → t.tx.serializer = .free)
        ∧ t.mem.waiting = none ∧ t.mem.fairness = 0
        ∧ (∀ r, s.mem.bus = some (.host r) → t.mem.bus = some (.host r))
        ∧ (∀ op b, s.mem.bus = some (.internal op b) → t.mem.bus = some (.internal op true))
        ∧ t.host.confirmTimer = none ∧ t.host.lastGuardAddr = 0#22
        ∧ (∀ k r c b, s.host.port = .held k r c b → t.host.port = .idle ∧ t.host.response = some .fault)
        ∧ (∀ r, s.host.port = .withheld r → t.host.port = .idle ∧ t.host.response = some .fault)
        ∧ (∀ r c b, s.host.port = .forwarded r c b → ∃ b', t.host.port = .forwarded r c b'
            ∧ (b' = true ↔ b = true ∨ (s.list.reserved = true ∧ r.kind = .write ∧ c.role = .active
                ∧ c.policy = .confirm)))

/-- The end of a warm reset (R186): where no load is to be restarted the unit enters START_ROLE with no
event, and the link enters DOWN, its first HELLO on the send pair, if link enable is set and the
serializer is free. Where the reset ended a load, a new load begins and the role stays NONE (R195).
After a cold reset that ended with WRST still asserted the release is no end of a warm reset: it lets the waiting load
begin, its read command going out bit by bit, most significant bit first, and enters no role (R185, R200; the model's
reading, log 19). A release while RESET lasts, or with no load waiting, changes the level alone, and a release of a
WRST that is not asserted nothing (log 2). -/
def Obligations.WarmResetEndEntersRoleAndLink : Prop :=
  (∀ s : State, s.phase = .warm → s.wrst = true → s.pair.role = .none → s.pair.link = .off →
    ∃ t, exec .warmResetEnd s = .next t
      ∧ t.phase = .running ∧ t.wrst = false ∧ t.cfg = s.cfg ∧ t.events = s.events ∧ t.mgmt = s.mgmt
      ∧ t.list = s.list ∧ t.host = s.host ∧ t.mem = s.mem ∧ t.dirty = s.dirty ∧ t.walker = s.walker
      ∧ (s.loader.state = .loading → t.pair.role = .none ∧ t.loader.state = .loading
          ∧ t.loader.reading = true ∧ t.loader.failIndex = 0#8)
      ∧ (s.loader.state ≠ .loading → t.loader = s.loader ∧ t.pair.role = s.cfg.startRole
          ∧ t.stream.mode = .closed ∧ t.stream.isOpen = false ∧ t.stream.epoch = s.stream.epoch
          ∧ t.apply.consistency = .inconsistent ∧ t.apply.heldEpoch = none)
      ∧ (s.cfg.linkEnable = false → t.pair.link = .off ∧ t.tx = s.tx)
      ∧ (s.cfg.linkEnable = true → t.pair.link = .down ∧ t.rx.receiver = .hunting ∧ t.rx.buffer = []
          ∧ t.pair.helloTimer = some s.cfg.helloInterval.toNat
          ∧ (s.tx.serializer = .free → ∃ h : Hello, t.tx.serializer = .sending (.hello h)
              ∧ t.tx.helloDue = false ∧ h.role = t.pair.role ∧ h.seen = false)
          ∧ (s.tx.serializer ≠ .free → t.tx.serializer = s.tx.serializer ∧ t.tx.helloDue = true)))
  ∧ ∀ s : State,
    (s.wrst = false → exec .warmResetEnd s = .next s)
    ∧ (s.wrst = true → s.phase = .running → s.loader.state = .loading → s.loader.reading = false →
      exec .warmResetEnd s = .next { s with
        wrst := false
        loader := { state := .loading, failIndex := 0#8, reading := true
                    portOut := bitsOfBytes [0x03#8, 0#8, 0#8] } })
    ∧ (s.wrst = true →
      s.phase = .cold ∨ (s.phase = .running ∧ (s.loader.state ≠ .loading ∨ s.loader.reading = true)) →
      exec .warmResetEnd s = .next { s with wrst := false })

/-- RESTART is a warm reset exactly as by the WRST pin, asserted and released at once, after its own
transaction (R181): the one difference is that the six bytes of its write were acknowledged. -/
def Obligations.RestartIsAWarmReset : Prop :=
  ∀ (target : BitVec 7) (s : State), acknowledges target s = true → s.loader.state ≠ .loading →
    s.mgmt.result.state ≠ .inProgress →
    ∃ a b, exec .warmReset s = .next a ∧ exec .warmResetEnd a = .next b
      ∧ exec (.restart target) s = .next { b with mgmt := { b.mgmt with acked := 6 } }

/-! ### Loads -/

/-- The image that holds the entries: signature, count, check, and the entries, every field most significant byte
first (11.3), sampled bit by bit, the most significant bit of each byte first (R200), is judged by staging the
entries one at a time, from entry 1 to the last, over the configuration in force (R189 to R191). -/
def Obligations.ImageStagedEntryByEntry : Prop :=
  ∀ (cfg : Settings) (entries : List (Byte × Word)),
    1 ≤ entries.length → entries.length ≤ 255 →
    judgeImage cfg (bitsOfBytes (imageOf entries)) = stage 1 cfg entries

/-- Staging (R191): an entry that its item accepts replaces the item's value in the staging copy, and the
entries after it are judged against that copy; the first entry that is refused ends the load with its number.
The header checks (R189, R190): another signature, an absent memory among them, is ABSENT; a count of 0 or
above 255, or a check that is not the CRC of the entry bytes, is FAILED with failing index 0. An image may hold
EVENT_ROUTES, LINK_CONTROL, the settings and the region items; an entry that names any other item, or none, is
refused (R191, 11.4). -/
def Obligations.ImagesRefused : Prop :=
  (∀ (cfg : Settings) (before after : List (Byte × Word)) (item : Byte) (v : Word) (staging : Settings) (a : Access),
    before.length < 255 → stage 1 cfg before = .commits staging →
    (judgeConfig .none staging item v = .error a →
        stage 1 cfg (before ++ (item, v) :: after) = .failed (BitVec.ofNat 8 (before.length + 1)))
      ∧ ∀ staging', judgeConfig .none staging item v = .ok staging' →
          stage 1 cfg (before ++ [(item, v)]) = .commits staging')
  ∧ (∀ (cfg : Settings) (b₀ b₁ b₂ b₃ : Byte) (count check : Half) (rest : List Byte),
    let image := bitsOfBytes ([b₀, b₁, b₂, b₃] ++ halfBytes count ++ halfBytes check ++ rest)
    judgeImage cfg [] = .absent
      ∧ ([b₀, b₁, b₂, b₃] ≠ [0x4D#8, 0x52#8, 0x49#8, 0x4D#8] → judgeImage cfg image = .absent)
      ∧ ([b₀, b₁, b₂, b₃] = [0x4D#8, 0x52#8, 0x49#8, 0x4D#8] →
          (count = 0#16 ∨ 255 < count.toNat → judgeImage cfg image = .failed 0#8)
          ∧ (1 ≤ count.toNat → count.toNat ≤ 255 → 5 * count.toNat ≤ rest.length →
              crc16 (rest.take (5 * count.toNat)) ≠ check → judgeImage cfg image = .failed 0#8)))
  ∧ ∀ (staging : Settings) (item : Byte) (v : Word),
    (itemKind item = some .config ↔ item.toNat = 0x32 ∨ item.toNat = 0x38 ∨ (0x40 ≤ item.toNat ∧ item.toNat ≤ 0x4C)
      ∨ (0x60 ≤ item.toNat ∧ item.toNat ≤ 0x7F))
    ∧ (itemKind item ≠ some .config → ∃ a, judgeConfig .none staging item v = .error a)

/-! ### Host port, memory port and capture -/

/-- A commit (R192): the configuration takes the staging copy's values, the link follows link enable and rate,
the load state becomes LOADED, the unit enters START_ROLE, and LOAD_END is raised, which ends a RELOAD (R182).
The premises are invariants of a unit in role NONE: `handoverIsActive` says that no HANDOVER is IN_PROGRESS there, and
is kept by every step as a part of `sound` (SoundKept). -/
def Obligations.LoadCommits : Prop :=
  ∀ (image : List Bool) (s : State) (staging : Settings),
    s.phase = .running → s.loader.state = .loading → s.loader.reading = true → s.pair.role = .none →
    inactiveEmpty s = true → standbyOnly s = true → handoverIsActive s = true →
    judgeImage s.cfg image = .commits staging →
    ∃ t, exec (.loadCommit image) s = .next t
      ∧ t.cfg = staging
      ∧ t.loader = { state := .loaded, failIndex := 0#8, reading := false, portOut := [] }
      ∧ t.pair.role = staging.startRole ∧ t.stream.mode = .closed ∧ t.stream.isOpen = false
      ∧ t.apply.heldEpoch = none ∧ t.apply.consistency = .inconsistent ∧ t.list.records = []
      ∧ flagSet t.events.flags .loadEnd = true
      ∧ (staging.startRole ≠ .none → flagSet t.events.flags .roleChanged = true)
      ∧ t.events.alert = alertCondition t.events.flags staging.routes
      ∧ (s.cfg.linkEnable = false → staging.linkEnable = true →
          t.pair.link = .down ∧ t.rx.receiver = .hunting ∧ t.rx.buffer = [])
      ∧ (s.cfg.linkEnable = true → staging.linkEnable = false →
          t.pair.link = .off ∧ t.rx.receiver = .notWatching ∧ t.pair.partner = PartnerView.cleared)
      ∧ (s.cfg.linkEnable = true → staging.linkEnable = true → s.cfg.linkRate ≠ staging.linkRate →
          t.pair.link = .down ∧ t.pair.partner = PartnerView.cleared)
      ∧ (s.cfg.linkEnable = staging.linkEnable → s.cfg.linkRate = staging.linkRate →
          staging.startRole = .none → t.pair.link = s.pair.link)
      ∧ (s.mgmt.result.command = some .reload → s.mgmt.result.state = .inProgress →
          t.mgmt.result.state = .done ∧ t.mgmt.result.detail = .loaded
            ∧ flagSet t.events.flags .commandEnd = true)

/-- A load that ends ABSENT or FAILED commits nothing (R193): the load state and the failing index take the
outcome, LOAD_END is raised and a RELOAD ends DONE with the outcome as its detail (R182); everything else
stays. -/
def Obligations.LoadFailsAndCommitsNothing : Prop :=
  ∀ (image : List Bool) (s : State),
    s.phase = .running → s.loader.state = .loading → s.loader.reading = true →
    ∀ (outcome : LoadState) (index : Byte) (detail : Detail),
      (judgeImage s.cfg image = .absent ∧ outcome = .absent ∧ index = 0#8 ∧ detail = .absent
        ∨ judgeImage s.cfg image = .failed index ∧ outcome = .failed ∧ detail = .failed) →
      (s.mgmt.result.command = some .reload → s.mgmt.result.state = .inProgress →
        exec (.loadFail image) s = .next (raise .commandEnd (raise .loadEnd { s with
          loader := { state := outcome, failIndex := index, reading := false, portOut := [] }
          mgmt := { s.mgmt with result := { s.mgmt.result with
            state := .done, reason := .none, detail := detail } } })))
      ∧ (¬(s.mgmt.result.command = some .reload ∧ s.mgmt.result.state = .inProgress) →
        exec (.loadFail image) s = .next (raise .loadEnd { s with
          loader := { state := outcome, failIndex := index, reading := false, portOut := [] } }))

/-- Lookup (R3): the enabled entry with the lowest index whose region contains the address, where a region is
the addresses from 256 × granule number on, 256 × granule count of them; unmatched addresses are PASS and
OPEN. -/
def Obligations.LookupFindsTheLowestEntry : Prop :=
  ∀ (table : Vector RegionEntry 16) (a : Nat),
    let holds (m : BitVec 4) : Prop :=
      (regionAt table m).enabled = true ∧ 256 * (regionAt table m).base.toNat ≤ a
        ∧ a < 256 * (regionAt table m).base.toNat + 256 * ((regionAt table m).countLess1.toNat + 1)
    (∀ n : BitVec 4, holds n → (∀ m, m.toNat < n.toNat → ¬holds m) →
        regionIndexAt table a = some n ∧ policyAt table a = (regionAt table n).policy
          ∧ guardAt table a = (regionAt table n).guard)
      ∧ ((∀ n, ¬holds n) →
          regionIndexAt table a = none ∧ policyAt table a = .pass ∧ guardAt table a = .opened)

/-- A request that the IDLE port accepts and that is no mirrored write of a NORMAL, RESYNC or DRAINING stream
and no write to a GUARDED region of a STANDBY is forwarded with its classification (R10, R140, R142); while
the port is not IDLE, or the unit is in reset, a request stays unaccepted (R139, R185, R186).
A write to a GUARDED region of a STANDBY unit is refused (R141): LAST_GUARD_ADDR takes its word address,
GUARD_HIT is raised, FAULT is passed back, and no memory transaction is made. -/
def Obligations.HostRequestForwardedOrRefused : Prop :=
  (∀ (kind : HostKind) (addr : WordAddr) (lanes : LaneMask) (data : Word) (s : State),
    (s.phase ≠ .running ∨ s.host.port ≠ .idle → exec (.hostRequest kind addr lanes data) s = .next s)
      ∧ (s.phase = .running → s.host.port = .idle →
        (kind = .read ∨ s.pair.role = .none
          ∨ (s.pair.role = .standby ∧ guardAt s.cfg.regions (4 * addr.toNat) = .opened)
          ∨ (s.pair.role = .active ∧ policyAt s.cfg.regions (4 * addr.toNat) = .pass)
          ∨ (s.pair.role = .active ∧ (s.stream.mode = .closed ∨ s.stream.mode = .tracking))) →
        exec (.hostRequest kind addr lanes data) s = .next (schedule { s with
          host := { s.host with
            response := none
            port := .forwarded { kind := kind, addr := addr, lanes := lanes, data := data }
              { role := s.pair.role, region := regionIndexAt s.cfg.regions (4 * addr.toNat),
                policy := policyAt s.cfg.regions (4 * addr.toNat) } false } })))
  ∧ (∀ (addr : WordAddr) (lanes : LaneMask) (data : Word) (s : State),
    s.phase = .running → s.host.port = .idle → s.pair.role = .standby →
    guardAt s.cfg.regions (4 * addr.toNat) = .guarded →
    exec (.hostRequest .write addr lanes data) s = .next (schedule (raise .guardHit { s with
      host := { s.host with port := .idle, response := some .fault, lastGuardAddr := addr } })))

/-- A mirrored write on an ACTIVE unit in NORMAL or RESYNC: with a free entry it takes the reservation and is
forwarded (R13); without one it begins a LIST hold while the link is UP or HANDSHAKE, counted in HOLDS, and
spills otherwise and is forwarded under TRACKING (R40, R45). In DRAINING it is held (R144). -/
def Obligations.MirroredWriteReservedHeldOrSpilled : Prop :=
  ∀ (addr : WordAddr) (lanes : LaneMask) (data : Word) (s : State),
    s.phase = .running → s.host.port = .idle → s.pair.role = .active →
    policyAt s.cfg.regions (4 * addr.toNat) ≠ .pass →
    let req : HostReq := { kind := .write, addr := addr, lanes := lanes, data := data }
    let cls : HostClass :=
      { role := .active, region := regionIndexAt s.cfg.regions (4 * addr.toNat),
        policy := policyAt s.cfg.regions (4 * addr.toNat) }
    let at_ (p : PortState) : HostPort := { s.host with response := none, port := p }
    ((s.stream.mode = .normal ∨ s.stream.mode = .resync) →
      (s.list.records.length + s.list.reserved.toNat < 64 →
        exec (.hostRequest .write addr lanes data) s = .next (schedule { s with
          host := at_ (.forwarded req cls false)
          list := { s.list with reserved := true, holdTimer := none } }))
      ∧ (64 ≤ s.list.records.length + s.list.reserved.toNat →
          (s.pair.link = .up ∨ s.pair.link = .handshake →
            exec (.hostRequest .write addr lanes data) s = .next (schedule { s with
              host := at_ (.held .list req cls true)
              list := { s.list with
                holdTimer := some s.cfg.holdTimeout.toNat, holds := countUp s.list.holds } }))
          ∧ (s.pair.link ≠ .up → s.pair.link ≠ .handshake →
            let spilled := spill { s with host := at_ .idle }
            exec (.hostRequest .write addr lanes data) s = .next (schedule { spilled with
              host := { spilled.host with port := .forwarded req cls false } }))))
      ∧ (s.stream.mode = .draining →
          exec (.hostRequest .write addr lanes data) s = .next (schedule { s with
            host := at_ (.held .drain req cls false) }))

/-- The arbiter (R152): on a free bus the request that waits is granted; where both wait, the host path below
fairness count 4, which rises by one, and the internal requester at 4. The count becomes 0 at a grant of the
internal requester, at a withdrawal of its request and at both resets. -/
def Obligations.ArbiterGrants : Prop :=
  (∀ s : State, s.phase ≠ .cold → s.mem.bus = none →
    (∀ req cls cond, s.host.port = .forwarded req cls cond → s.mem.waiting = none →
        exec .memoryGrant s = .next { s with mem := { s.mem with bus := some (.host req) } })
    ∧ (∀ op, (∀ req cls cond, s.host.port ≠ .forwarded req cls cond) → s.mem.waiting = some op →
        exec .memoryGrant s = .next { s with
          mem := { bus := some (.internal op false), waiting := none, fairness := 0 } })
    ∧ (∀ req cls cond op, s.host.port = .forwarded req cls cond → s.mem.waiting = some op →
        (s.mem.fairness < 4 → exec .memoryGrant s = .next { s with
          mem := { s.mem with bus := some (.host req), fairness := s.mem.fairness + 1 } })
        ∧ (s.mem.fairness = 4 → exec .memoryGrant s = .next { s with
            mem := { bus := some (.internal op false), waiting := none, fairness := 0 } })))
  ∧ (∀ (c : Instr) (s t : State), exec c s = .next t → s.mem.waiting.isSome → t.mem.waiting = none →
      t.mem.fairness = 0)
  ∧ (∀ s t : State, exec .coldReset s = .next t → t.mem.fairness = 0)
  ∧ ∀ s t : State, exec .warmReset s = .next t → s.wrst = false → s.phase ≠ .cold → t.mem.fairness = 0

/-- Memory's answer to a host request that no capture follows (R9, R11, R12, R15, R16, R143): a read and a write
that is not mirrored pass it back unchanged; a FAULT returns the reservation and is passed back with no event;
an OK to a mirrored write while the unit is not ACTIVE or is CLOSED returns the reservation, and in TRACKING
marks the write's block as well: a STREAM write is answered OK, a CONFIRM write FAULT with CONFIRM_FAIL,
which is not raised again for a condemned write (R149). -/
def Obligations.AnswersWithoutCapture : Prop :=
  ∀ (req : HostReq) (cls : HostClass) (condemned : Bool) (bus : HostReq) (s : State),
    s.mem.bus = some (.host bus) → s.host.port = .forwarded req cls condemned →
    let mirrored := req.kind = .write ∧ cls.role = .active ∧ cls.policy ≠ .pass
    let answered (r : HostResponse) : State := { s with
      mem := { s.mem with bus := none }
      host := { s.host with port := .idle, response := some r } }
    let returned (r : HostResponse) : State :=
      { answered r with list := { s.list with reserved := false } }
    let tracked (r : HostResponse) : State :=
      { returned r with dirty := markBlock (req.addr.toNat / 1024) s.dirty }
    (¬mirrored →
      (exec (.hostMemoryAnswer .fault) s = .next (schedule (answered .fault)))
      ∧ ∀ data, exec (.hostMemoryAnswer (.ok data)) s = .next (schedule (answered
          (if req.kind = .read then .readOk data else .writeOk))))
    ∧ (mirrored →
      exec (.hostMemoryAnswer .fault) s = .next (schedule (returned .fault))
      ∧ ∀ data,
        ((s.pair.role ≠ .active ∨ s.stream.mode = .closed) →
          (cls.policy = .stream →
            exec (.hostMemoryAnswer (.ok data)) s = .next (schedule (returned .writeOk)))
          ∧ (cls.policy = .confirm → condemned = true →
            exec (.hostMemoryAnswer (.ok data)) s = .next (schedule (returned .fault)))
          ∧ (cls.policy = .confirm → condemned = false →
            exec (.hostMemoryAnswer (.ok data)) s = .next (schedule (raise .confirmFail (returned .fault)))))
        ∧ (s.pair.role = .active → s.stream.mode = .tracking →
          (cls.policy = .stream →
            exec (.hostMemoryAnswer (.ok data)) s = .next (schedule (tracked .writeOk)))
          ∧ (cls.policy = .confirm → condemned = true →
            exec (.hostMemoryAnswer (.ok data)) s = .next (schedule (tracked .fault)))
          ∧ (cls.policy = .confirm → condemned = false →
            exec (.hostMemoryAnswer (.ok data)) s = .next (schedule (raise .confirmFail (tracked .fault)))))
        ∧ (s.pair.role = .active → s.stream.mode = .resync → cls.policy = .stream →
          req.addr.toNat / 1024 ∈ s.dirty →
            exec (.hostMemoryAnswer (.ok data)) s = .next (schedule (returned .writeOk))))

/-- A captured STREAM write joins the open WRITE record when region, next word address and count allow (R18): the
word is appended, the reservation returned, the coalesce timer restarted, and at the coalesce limit the record
closes (R20). -/
def Obligations.StreamWriteJoins : Prop :=
  ∀ (req : HostReq) (cls : HostClass) (condemned : Bool) (bus : HostReq) (data : Word) (s : State)
    (region : BitVec 4) (before after : List Rec) (r : Rec) (start : WordAddr) (words : List DataWord),
    s.mem.bus = some (.host bus) → s.host.port = .forwarded req cls condemned →
    req.kind = .write → cls.role = .active → cls.policy = .stream → cls.region = some region →
    s.pair.role = .active →
    (s.stream.mode = .normal ∨ (s.stream.mode = .resync ∧ req.addr.toNat / 1024 ∉ s.dirty)) →
    s.list.records = before ++ r :: after → r.state = .opened → r.body = .data .write region start words →
    (∀ x ∈ before ++ after, isOpenWrite x = false) →
    req.addr.toNat = start.toNat + words.length → words.length < s.cfg.coalesceLimit.toNat →
    let full := decide (words.length + 1 = s.cfg.coalesceLimit.toNat)
    let joined : Rec := { r with
      body := .data .write region start (words ++ [{ mask := req.lanes, data := req.data }])
      state := if full then .pending else .opened }
    exec (.hostMemoryAnswer (.ok data)) s = .next (schedule { s with
      mem := { s.mem with bus := none }
      host := { s.host with port := .idle, response := some .writeOk }
      list := { s.list with
        records := before ++ joined :: after
        reserved := false
        coalesceTimer := if full then none else some s.cfg.coalesceWindow.toNat } })

/-- A captured STREAM write that does not join closes the open WRITE record and opens its own in its reserved entry,
or in a free one (R15, R17, R19, R20): it takes the next sequence, and stays OPEN with the coalesce timer running
unless the coalesce limit is 1 or the stream drains. Captured late with no reservation and no free entry, it spills
instead: its block is marked as well, a resync start follows where the link is UP to a STANDBY, and the write is
answered OK (R17, R44, R45; the write's mark comes before the start, log 10). -/
def Obligations.StreamWriteOpensARecord : Prop :=
  ∀ (req : HostReq) (cls : HostClass) (condemned : Bool) (bus : HostReq) (data : Word) (s : State)
    (region : BitVec 4),
    s.mem.bus = some (.host bus) → s.host.port = .forwarded req cls condemned →
    req.kind = .write → cls.role = .active → cls.policy = .stream → cls.region = some region →
    s.pair.role = .active →
    (s.stream.mode = .draining ∨
      (s.stream.mode = .normal ∨ (s.stream.mode = .resync ∧ req.addr.toNat / 1024 ∉ s.dirty))
        ∧ ∀ r ∈ s.list.records, ∀ start words, r.state = .opened → r.body = .data .write region start words →
            req.addr.toNat = start.toNat + words.length → s.cfg.coalesceLimit.toNat ≤ words.length) →
    let closes := decide (s.cfg.coalesceLimit.toNat = 1 ∨ s.stream.mode = .draining)
    let opened : Rec :=
      { seq := s.list.nextSeq
        body := .data .write region req.addr [{ mask := req.lanes, data := req.data }]
        state := if closes then .pending else .opened
        waiter := false
        transmitted := false }
    (s.list.reserved = true ∨ s.list.records.length < 64 →
      exec (.hostMemoryAnswer (.ok data)) s = .next (schedule { s with
        mem := { s.mem with bus := none }
        host := { s.host with port := .idle, response := some .writeOk }
        list := { s.list with
          records := (closeWrite s.list).records ++ [opened]
          reserved := false
          nextSeq := s.list.nextSeq + 1#16
          coalesceTimer := if closes then none else some s.cfg.coalesceWindow.toNat } }))
    ∧ (s.list.reserved = false → 64 ≤ s.list.records.length → s.stream.mode ≠ .draining →
      let spilled := lateSpill (req.addr.toNat / 1024) { s with mem := { s.mem with bus := none } }
      exec (.hostMemoryAnswer (.ok data)) s = .next (schedule { spilled with
        host := { spilled.host with port := .idle, response := some .writeOk } }))

/-- A captured CONFIRM write closes the open WRITE record and forms its own, PENDING at once (R21). With its
reservation, and not condemned, it carries a confirm waiter: the port withholds the response and the confirm
timer starts (R147). Captured late in a free entry, or condemned, it carries none and is answered FAULT, with
CONFIRM_FAIL unless it was condemned (R143, R149). Late with no free entry, the unit spills, marks the write's block,
and takes the resync start that the spill may cause (R17, R44, R45; in this order, log 10), with the same answer. -/
def Obligations.ConfirmWriteCaptured : Prop :=
  ∀ (req : HostReq) (cls : HostClass) (condemned : Bool) (bus : HostReq) (data : Word) (s : State)
    (region : BitVec 4),
    s.mem.bus = some (.host bus) → s.host.port = .forwarded req cls condemned →
    req.kind = .write → cls.role = .active → cls.policy = .confirm → cls.region = some region →
    s.pair.role = .active →
    (s.stream.mode = .normal ∨ s.stream.mode = .resync ∨ s.stream.mode = .draining) →
    let captured (waiter : Bool) (p : HostPort) : State := { s with
      mem := { s.mem with bus := none }
      host := p
      list := { s.list with
        records := (closeWrite s.list).records ++
          [{ seq := s.list.nextSeq
             body := .data .write region req.addr [{ mask := req.lanes, data := req.data }]
             state := .pending
             waiter := waiter
             transmitted := false }]
        reserved := false
        nextSeq := s.list.nextSeq + 1#16
        coalesceTimer := none } }
    (s.list.reserved = true → condemned = false →
      exec (.hostMemoryAnswer (.ok data)) s = .next (schedule (captured true { s.host with
        port := .withheld req, confirmTimer := some s.cfg.confirmTimeout.toNat })))
    ∧ (s.list.reserved = false → s.list.records.length < 64 → condemned = false →
      exec (.hostMemoryAnswer (.ok data)) s = .next (schedule (raise .confirmFail (captured false
        { s.host with port := .idle, response := some .fault }))))
    ∧ ((s.list.reserved = true ∨ s.list.records.length < 64) → condemned = true →
      exec (.hostMemoryAnswer (.ok data)) s = .next (schedule (captured false
        { s.host with port := .idle, response := some .fault })))
    ∧ (s.list.reserved = false → 64 ≤ s.list.records.length → s.stream.mode ≠ .draining →
      let spilled := lateSpill (req.addr.toNat / 1024) { s with mem := { s.mem with bus := none } }
      let answered : State := { spilled with host := { spilled.host with port := .idle, response := some .fault } }
      (condemned = false → exec (.hostMemoryAnswer (.ok data)) s = .next (schedule (raise .confirmFail answered)))
      ∧ (condemned = true → exec (.hostMemoryAnswer (.ok data)) s = .next (schedule answered)))

/-- The coalesce timer's expiry closes the open WRITE record (R20), the confirm timer's ends the confirm wait with
FAULT and CONFIRM_FAIL, the record staying without a waiter (R148), and a LIST hold ends with a reservation when
an entry is free (R41).
The hold timer's expiry (R42, R45): HOLD_TIMEOUT, a spill, and the held write classified again: in TRACKING
it is forwarded without a reservation, after a resync start it takes one of the emptied list. -/
def Obligations.HostPathTimersAndHoldEnds : Prop :=
  ((∀ (d : Nat) (s : State), s.list.coalesceTimer = some d →
    exec .coalesceTimerExpiry s = .next (finish { s with list := { s.list with
      records := s.list.records.map (fun r =>
        if r.state = .opened ∧ isWrite r.body then { r with state := .pending } else r)
      coalesceTimer := none } }))
  ∧ (∀ (d : Nat) (req : HostReq) (s : State), s.host.confirmTimer = some d → s.host.port = .withheld req →
    exec .confirmTimerExpiry s = .next (raise .confirmFail { s with
      host := { s.host with port := .idle, response := some .fault, confirmTimer := none }
      list := { s.list with records := s.list.records.map (fun r => { r with waiter := false }) } }))
  ∧ ∀ (req : HostReq) (cls : HostClass) (counted : Bool) (s : State),
    s.host.port = .held .list req cls counted → s.list.records.length + s.list.reserved.toNat < 64 →
    exec .holdReserved s = .next { s with
      host := { s.host with port := .forwarded req cls false }
      list := { s.list with reserved := true, holdTimer := none } })
  ∧ (∀ (d : Nat) (req : HostReq) (cls : HostClass) (counted : Bool) (s : State),
    s.host.port = .held .list req cls counted → s.list.holdTimer = some d → req.kind = .write →
    s.pair.role = .active → policyAt s.cfg.regions (4 * req.addr.toNat) ≠ .pass →
    let u := spill (raise .holdTimeout { s with list := { s.list with holdTimer := none } })
    let resyncs := decide (s.pair.link = .up ∧ s.pair.partner.role = .standby)
    let anew : HostClass :=
      { role := .active, region := regionIndexAt s.cfg.regions (4 * req.addr.toNat),
        policy := policyAt s.cfg.regions (4 * req.addr.toNat) }
    u.stream.mode = (if resyncs then .resync else .tracking)
    ∧ exec .holdTimerExpiry s = .next (schedule { u with
        host := { u.host with port := .forwarded req anew false }
        list := { u.list with reserved := resyncs, holdTimer := none } }))

/-! ### Holds -/

/-- What a step leaves of a held write (R43, R144 to R146), as `finish` gives it. A LIST hold stands while the role is
ACTIVE, the mode NORMAL or RESYNC and the link UP or HANDSHAKE, and a drain hold while the unit drains. A LIST hold
whose link is neither spills, and the write is forwarded under TRACKING (R40, R45). A write whose hold has otherwise
ended is classified again: forwarded, refused by a guard, or, after a drain that ends in NORMAL, given a
reservation, held anew and counted once, or spilled for. -/
def Obligations.HeldWriteSettles : Prop :=
  ∀ (k : HoldKind) (req : HostReq) (cls : HostClass) (counted : Bool) (s : State),
    s.host.port = .held k req cls counted → req.kind = .write →
    let streams : Prop := s.stream.mode = .normal ∨ s.stream.mode = .resync
    let reaches : Prop := s.pair.link = .up ∨ s.pair.link = .handshake
    let anew : HostClass :=
      { role := s.pair.role, region := regionIndexAt s.cfg.regions (4 * req.addr.toNat),
        policy := policyAt s.cfg.regions (4 * req.addr.toNat) }
    let ported (p : PortState) (x : State) : State := { x with host := { x.host with port := p } }
    let ended : State := { s with list := { s.list with holdTimer := none } }
    (k = .list → s.pair.role = .active → streams →
      (reaches → finish s = schedule s)
      ∧ (¬reaches → finish s = schedule (ported (.forwarded req anew false)
          { spill s with list := { (spill s).list with holdTimer := none } })))
    ∧ (k = .drain → s.pair.role = .active → s.stream.mode = .draining → finish s = schedule s)
    ∧ (s.pair.role = .standby → guardAt s.cfg.regions (4 * req.addr.toNat) = .guarded →
        finish s = schedule (raise .guardHit { ended with
          host := { s.host with port := .idle, response := some .fault, lastGuardAddr := req.addr } }))
    ∧ (s.pair.role = .none
        ∨ (s.pair.role = .standby ∧ guardAt s.cfg.regions (4 * req.addr.toNat) = .opened)
        ∨ (s.pair.role = .active ∧ (s.stream.mode = .closed ∨ s.stream.mode = .tracking)) →
        finish s = schedule (ported (.forwarded req anew false) ended))
    ∧ (k = .drain → s.pair.role = .active → streams → policyAt s.cfg.regions (4 * req.addr.toNat) ≠ .pass →
      (s.list.records.length + s.list.reserved.toNat < 64 →
        finish s = schedule (ported (.forwarded req anew false)
          { s with list := { s.list with reserved := true, holdTimer := none } }))
      ∧ (64 ≤ s.list.records.length + s.list.reserved.toNat →
        (reaches → finish s = schedule (ported (.held .list req anew true)
          { s with list := { s.list with
              holdTimer := some s.cfg.holdTimeout.toNat
              holds := if counted then s.list.holds else countUp s.list.holds } }))
        ∧ (¬reaches → finish s = schedule (ported (.forwarded req anew false) (spill ended)))))

/-! ### Link characters and frames -/

/-- A character on the line (R50): start bit 0, the value's bits with bit 0 first, the marker, a parity bit that
makes the ones of bit times 1 to 10 odd in number, stop bit 1. Such a character is read back as the byte or the
control character it carries (R54), and no other twelve bits with a good start read as data. What the unit has to send
is coded so (R55, R56, R198): a frame is its start-of-frame character, its payload, the CRC of type code and payload
with the high byte first, and EOF; a frame cut off ends with the one character ABORT (R69); a free serializer sends
nothing. With a good start, exactly the characters with bad parity, with stop bit 0, or with the marker and a code
that is none of the seven are errors (R53). The CRC starts at 0xFFFF, takes each byte most significant bit first, is 0
over bytes with their own CRC behind them, and 0x29B1 over 0x31 to 0x39 (R56, R198). -/
def Obligations.CharacterCoding : Prop :=
  (∀ (control : Bool) (value : Byte),
    let bits := characterBits control value
    bits.getLsbD 0 = false ∧ (∀ i < 8, bits.getLsbD (i + 1) = value.getLsbD i) ∧ bits.getLsbD 9 = control
      ∧ bits.getLsbD 11 = true ∧ ((List.range 10).countP fun i => bits.getLsbD (i + 1)) % 2 = 1)
  ∧ (∀ b : Byte, symbolOf (characterBits false b) = .data b)
  ∧ (∀ t : FrameType, symbolOf (characterBits true (sofCode t)) = .sof t)
  ∧ symbolOf (characterBits true 0x1E#8) = .eof ∧ symbolOf (characterBits true 0x1F#8) = .abort
  ∧ (∀ (bits : BitVec 12) (b : Byte), bits.getLsbD 0 = false → symbolOf bits = .data b →
      bits = characterBits false b)
  ∧ (∀ bits : BitVec 12, bits.getLsbD 0 = false → (symbolOf bits = .error ↔
      ((List.range 10).countP fun i => bits.getLsbD (i + 1)) % 2 = 0 ∨ bits.getLsbD 11 = false
        ∨ (bits.getLsbD 9 = true ∧ bits.extractLsb' 1 8 ∉ [0x11#8, 0x12#8, 0x13#8, 0x14#8, 0x15#8, 0x1E#8, 0x1F#8])))
  ∧ (crc16 [] = 0xFFFF#16
    ∧ (∀ (xs : List Byte) (b : Byte), crc16 (xs ++ [b]) = (List.range 8).foldl (fun (crc : Half) (i : Nat) =>
        if crc.getLsbD 15 ≠ b.getLsbD (7 - i) then (crc <<< 1) ^^^ 0x1021#16 else crc <<< 1) (crc16 xs))
    ∧ (∀ xs : List Byte, crc16 (xs ++ halfBytes (crc16 xs)) = 0#16)
    ∧ crc16 [0x31#8, 0x32#8, 0x33#8, 0x34#8, 0x35#8, 0x36#8, 0x37#8, 0x38#8, 0x39#8] = 0x29B1#16
    ∧ ∀ h : Half, (halfBytes h).map BitVec.toNat = [h.toNat / 256, h.toNat % 256])
  ∧ ∀ s : State,
    (∀ f, s.tx.serializer = .sending f →
      let code := sofCode (frameType f)
      sendPair s = characterBits true code ::
        ((framePayload f ++ halfBytes (crc16 (code :: framePayload f))).map (characterBits false)
          ++ [characterBits true 0x1E#8]))
    ∧ (s.tx.serializer = .aborting → sendPair s = [characterBits true 0x1F#8])
    ∧ (s.tx.serializer = .free → sendPair s = [])

/-- A frame that a unit may send, its characters taken one after another by a receiver that hunts with no frame
begun, is placed whole in the receive buffer, and the partner loss timer restarts if it runs; with no free slot it
is dropped and RX_DROPS rises (R55, R56, R58 to R62, R82, R199). Nothing else changes. The payload of each frame holds
its fields at the offsets of 11.2, written here as the numbers of its bytes: every field most significant byte first,
a code being the place of its value in the list, an absent epoch sent as 0, the zero positions of a flags byte and
the unused half of a last mask byte as 0 (R57, R199). -/
def Obligations.FrameReceivedWhole : Prop :=
  (∀ (f : Frame) (s : State), frameWf f = true → s.rx.receiver = .hunting →
    (s.rx.assembler = .hunt ∨ s.rx.assembler = .discard) →
    runAll ((frameCharacters f).map Instr.linkCharacter) s = .next
      (if s.rx.buffer.length < 4 then { s with
          rx := { s.rx with assembler := .hunt, buffer := s.rx.buffer ++ [f] }
          pair := { s.pair with lossTimer := s.pair.lossTimer.map fun _ => s.cfg.lossTimeout.toNat } }
        else { s with rx := { s.rx with assembler := .hunt, rxDrops := countUp s.rx.rxDrops } }))
  ∧ (let bytes (f : Frame) : List Nat := (framePayload f).map BitVec.toNat
    let two (h : Half) : List Nat := [h.toNat / 256, h.toNat % 256]
    let roles : List Role := [.none, .active, .standby]
    let judgements : List Consistency := [.inconsistent, .resyncing, .consistent]
    (∀ (h : Hello) (k j : Nat), roles[k]? = some h.role → judgements[j]? = some h.consistency →
      bytes (.hello h) =
        [k, h.seen.toNat + 2 * h.streamOpen.toNat + 4 * h.epoch.isSome.toNat + 16 * j]
          ++ two h.digest ++ two (h.epoch.getD 0#16) ++ two h.seqA ++ two h.seqB)
    ∧ (∀ (p : Pulse) (k j : Nat), roles[k]? = some p.role → judgements[j]? = some p.consistency →
      bytes (.pulse p) = [k, 4 * p.epoch.isSome.toNat + 16 * j] ++ two (p.epoch.getD 0#16) ++ two p.seq)
    ∧ (∀ n : Half, bytes (.ack n) = two n ∧ bytes (.nak n) = two n)
    ∧ (∀ (n epoch : Half), bytes (.record n .endMark) = two n ++ [4]
      ∧ bytes (.record n (.handoverMark epoch)) = two n ++ [5] ++ two epoch
      ∧ bytes (.record n (.beginMark epoch .full)) = two n ++ [3] ++ two epoch ++ [0]
      ∧ bytes (.record n (.beginMark epoch .partialScope)) = two n ++ [3] ++ two epoch ++ [1])
    ∧ ∀ (n : Half) (kind : DataKind) (region : BitVec 4) (start : WordAddr) (words : List DataWord),
      words.length ≤ 16 →
      let mask (i : Nat) : Nat := ((words[i]?).map fun w => w.mask.toNat).getD 0
      let a := 4 * start.toNat
      bytes (.record n (.data kind region start words)) =
        two n ++ [if kind = .write then 1 else 2, region.toNat, a / 65536, a / 256 % 256, a % 256, words.length]
          ++ ((List.range ((words.length + 1) / 2)).map fun k => mask (2 * k) + 16 * mask (2 * k + 1))
          ++ words.flatMap fun w => [w.data.toNat / 2 ^ 24, w.data.toNat / 2 ^ 16 % 256, w.data.toNat / 2 ^ 8 % 256,
              w.data.toNat % 256])

/-- The assembler's handling of a character that is no EOF of a frame, by its state (R52, R53, R58, R59, R60). A
false start, or a character while the receiver does not hunt, changes nothing. -/
def Obligations.AssemblerHandlesEachInput : Prop :=
  ∀ (bits : BitVec 12) (s : State),
    (s.rx.receiver ≠ .hunting ∨ bits.getLsbD 0 = true → exec (.linkCharacter bits) s = .next s)
    ∧ (s.rx.receiver = .hunting → bits.getLsbD 0 = false →
      let bad (a : Assembler) (rx : LinkRx) : LinkRx :=
        { rx with assembler := a, badFrames := countUp rx.badFrames }
      let erred : LinkRx := { s.rx with
        charErrors := countUp s.rx.charErrors
        receiver := if bits.getLsbD 11 then .hunting else .awaitingLine }
      let begun (t : FrameType) : Assembler := .inFrame t [] (crc16 [sofCode t])
      ((∀ t data crc, s.rx.assembler ≠ .inFrame t data crc) →
        (symbolOf bits = .error →
          exec (.linkCharacter bits) s = .next (raise .linkError { s with rx := erred }))
        ∧ (∀ t, symbolOf bits = .sof t →
          exec (.linkCharacter bits) s = .next { s with rx := { s.rx with assembler := begun t } })
        ∧ (∀ b, symbolOf bits = .data b → exec (.linkCharacter bits) s = .next s)
        ∧ (symbolOf bits = .eof ∨ symbolOf bits = .abort →
          exec (.linkCharacter bits) s = .next { s with rx := { s.rx with assembler := .hunt } }))
      ∧ ∀ t data crc, s.rx.assembler = .inFrame t data crc →
        (symbolOf bits = .error →
          exec (.linkCharacter bits) s = .next (raise .linkError { s with rx := bad .discard erred }))
        ∧ (∀ t', symbolOf bits = .sof t' →
          exec (.linkCharacter bits) s = .next (raise .linkError { s with rx := bad (begun t') s.rx }))
        ∧ (∀ b, symbolOf bits = .data b →
          (data.length < 82 → exec (.linkCharacter bits) s = .next { s with rx := { s.rx with
            assembler := .inFrame t (data ++ [b]) (crcByte crc b) } })
          ∧ (82 ≤ data.length →
            exec (.linkCharacter bits) s = .next (raise .linkError { s with rx := bad .discard s.rx })))
        ∧ (symbolOf bits = .abort →
          exec (.linkCharacter bits) s = .next { s with rx := { s.rx with assembler := .hunt } }))

/-- A frame at its EOF (R61). Its last two data characters are its CRC; with a right CRC and a well-formed payload
it is accepted into a free slot, restarting the loss timer if it runs, or dropped with RX_DROPS where none is free;
otherwise it is bad, whatever the slots, and so is one that fails R61's record fields alone (the model's choice, log
30). In each case the state becomes HUNT. A payload is well formed only with the length that R55 gives for its type,
and for a RECORD for its kind and word count, with codes that are named, and with the record fields of R61; the zero
positions of a flags byte and of an odd last mask byte are ignored (R199). -/
def Obligations.FrameJudgedAtEof : Prop :=
  (∀ (t : FrameType) (data : List Byte) (crc : Half) (bits : BitVec 12) (s : State),
    s.rx.receiver = .hunting → bits.getLsbD 0 = false → symbolOf bits = .eof →
    s.rx.assembler = .inFrame t data crc → rxWf s.rx = true →
    (∀ payload f, data = payload ++ halfBytes (crc16 (sofCode t :: payload)) → parseFrame t payload = some f →
      (s.rx.buffer.length < 4 → exec (.linkCharacter bits) s = .next { s with
        rx := { s.rx with assembler := .hunt, buffer := s.rx.buffer ++ [f] }
        pair := { s.pair with lossTimer := s.pair.lossTimer.map fun _ => s.cfg.lossTimeout.toNat } })
      ∧ (s.rx.buffer.length = 4 → exec (.linkCharacter bits) s = .next { s with
          rx := { s.rx with assembler := .hunt, rxDrops := countUp s.rx.rxDrops } }))
    ∧ ((∀ payload f, data = payload ++ halfBytes (crc16 (sofCode t :: payload)) → parseFrame t payload ≠ some f) →
      exec (.linkCharacter bits) s = .next (raise .linkError { s with
        rx := { s.rx with assembler := .hunt, badFrames := countUp s.rx.badFrames } })))
  ∧ (∀ (t : FrameType) (p : List Byte) (f : Frame), parseFrame t p = some f →
    let byte (i : Nat) : Nat := ((p[i]?).map BitVec.toNat).getD 0
    frameType f = t ∧ frameWf f = true
    ∧ (t = .hello → p.length = 10) ∧ (t = .pulse → p.length = 6) ∧ (t = .ack ∨ t = .nak → p.length = 2)
    ∧ (t = .hello ∨ t = .pulse → byte 0 ≤ 2 ∧ byte 1 / 16 % 4 ≤ 2)
    ∧ (t = .record → 1 ≤ byte 2 ∧ byte 2 ≤ 5)
    ∧ (∀ n kind region start words, f = .record n (.data kind region start words) →
      byte 2 = (if kind = .write then 1 else 2) ∧ byte 3 ≤ 15 ∧ byte 6 % 4 = 0 ∧ byte 7 = words.length
        ∧ p.length = 8 + (words.length + 1) / 2 + 4 * words.length)
    ∧ (∀ n epoch scope, f = .record n (.beginMark epoch scope) → byte 2 = 3 ∧ byte 5 ≤ 1 ∧ p.length = 6)
    ∧ (∀ n, f = .record n .endMark → byte 2 = 4 ∧ p.length = 3)
    ∧ (∀ n epoch, f = .record n (.handoverMark epoch) → byte 2 = 5 ∧ p.length = 5))
  ∧ (∀ (role flags : Byte) (rest : List Byte),
    parseFrame .hello (role :: flags :: rest) = parseFrame .hello (role :: (flags &&& 0x37#8) :: rest)
      ∧ parseFrame .pulse (role :: flags :: rest) = parseFrame .pulse (role :: (flags &&& 0x34#8) :: rest))
  ∧ ∀ (head masks rest : List Byte) (count last : Byte), head.length = 7 → count.toNat = 2 * masks.length + 1 →
    parseFrame .record (head ++ count :: masks ++ last :: rest) =
      parseFrame .record (head ++ count :: masks ++ (last &&& 0x0F#8) :: rest)

/-- The dispatcher discards, uncounted, a RECORD unless the unit is STANDBY and an ACK or NAK unless it is ACTIVE
(R63); and after a stop error the receiver hunts again once the line is 1 (R53).
The end of a frame frees the serializer and starts the pulse timer while the link is UP (R64, R66); the pulse
timer's expiry makes a PULSE due (R66), and the HELLO interval timer's a HELLO (R77). -/
def Obligations.LinkDatapathSmallSteps : Prop :=
  ((∀ (f : Frame) (rest : List Frame) (s : State), s.rx.buffer = f :: rest →
    ((∃ q b, f = .record q b) ∧ s.pair.role ≠ .standby
      ∨ ((∃ n, f = .ack n) ∨ ∃ n, f = .nak n) ∧ s.pair.role ≠ .active) →
    exec .frameDiscarded s = .next { s with rx := { s.rx with buffer := rest } })
  ∧ ∀ s : State, s.rx.receiver = .awaitingLine →
    exec .receiverResumesHunting s = .next { s with rx := { s.rx with receiver := .hunting } })
  ∧ ((∀ s : State, s.tx.serializer ≠ .free →
    exec .frameEnd s = .next (finish { s with tx := { s.tx with
      serializer := .free
      pulseTimer := if s.pair.link = .up then some s.cfg.pulseInterval.toNat else s.tx.pulseTimer } }))
  ∧ (∀ (d : Nat) (s : State), s.tx.pulseTimer = some d →
    exec .pulseTimerExpiry s = .next (finish { s with
      tx := { s.tx with pulseTimer := none, pulseDue := true } }))
  ∧ ∀ (d : Nat) (s : State), s.pair.helloTimer = some d →
    exec .helloIntervalExpiry s = .next (finish { s with
      pair := { s.pair with helloTimer := none }
      tx := { s.tx with helloDue := true } }))

/-- The scheduler (R64): on a free serializer, and in no reset or OFF, it starts a due HELLO, else a due ACK or
NAK, else the offered record, else a due PULSE; at any start the pulse timer stops and a due PULSE is gone (R66).
A HELLO restarts its interval timer (R77); an ACK or NAK carries the expected sequence and, with a handover
pending, the unit takes the role ACTIVE at its start (R67, R93).
The fields of the HELLO and the PULSE a unit starts, by its role (R57, R77). -/
def Obligations.SchedulerPrefers : Prop :=
  (∀ s : State,
    (helloNow s).role = s.pair.role ∧ (pulseNow s).role = s.pair.role
    ∧ (helloNow s).digest = regionDigest s.cfg.regions
    ∧ ((helloNow s).seen = true ↔ s.pair.link = .handshake ∨ s.pair.link = .conflict ∨ s.pair.link = .mismatch)
    ∧ ((helloNow s).streamOpen = true ↔ s.pair.role = .active ∧ s.stream.isOpen = true)
    ∧ (s.pair.role = .active →
        (helloNow s).epoch = some s.stream.epoch ∧ (helloNow s).consistency = .inconsistent
        ∧ (helloNow s).seqA = s.list.nextSeq ∧ (helloNow s).seqB = oldestSeq s.list
        ∧ (pulseNow s).epoch = some s.stream.epoch ∧ (pulseNow s).consistency = .inconsistent
        ∧ (pulseNow s).seq = oldestSeq s.list)
    ∧ (s.pair.role = .standby →
        (helloNow s).epoch = s.apply.heldEpoch ∧ (helloNow s).consistency = s.apply.consistency
        ∧ (helloNow s).seqA = s.apply.expected ∧ (helloNow s).seqB = s.apply.expected
        ∧ (pulseNow s).epoch = s.apply.heldEpoch ∧ (pulseNow s).consistency = s.apply.consistency
        ∧ (pulseNow s).seq = s.apply.expected)
    ∧ (s.pair.role = .none →
        (helloNow s).epoch = none ∧ (helloNow s).consistency = .inconsistent
        ∧ (helloNow s).seqA = s.list.nextSeq ∧ (helloNow s).seqB = oldestSeq s.list
        ∧ (pulseNow s).epoch = none ∧ (pulseNow s).seq = oldestSeq s.list))
  ∧ (∀ s : State,
    let starts (f : Frame) (tx : LinkTx) : LinkTx :=
      { tx with serializer := .sending f, pulseDue := false, pulseTimer := none }
    ((s.phase ≠ .running ∨ s.pair.link = .off ∨ s.tx.serializer ≠ .free) → schedule s = s)
    ∧ (s.phase = .running → s.pair.link ≠ .off → s.tx.serializer = .free →
      (s.tx.helloDue = true → schedule s = { s with
        tx := starts (.hello (helloNow s)) { s.tx with helloDue := false }
        pair := { s.pair with helloTimer := some s.cfg.helloInterval.toNat } })
      ∧ (s.tx.helloDue = false → s.pair.link = .up →
        (s.tx.ackRequest = .ack → schedule s = takeHandoverRole { s with
          tx := starts (.ack s.apply.expected) { s.tx with ackRequest := .none } })
        ∧ (s.tx.ackRequest = .nak → schedule s = takeHandoverRole { s with
            tx := starts (.nak s.apply.expected) { s.tx with ackRequest := .none } })
        ∧ (s.tx.ackRequest = .none →
          (∀ r, offeredRecord s = some r → ∃ t, schedule s = t
            ∧ t.tx = starts (.record r.seq r.body) s.tx)
          ∧ (offeredRecord s = none → s.tx.pulseDue = true → schedule s = { s with
              tx := starts (.pulse (pulseNow s)) s.tx })
          ∧ (offeredRecord s = none → s.tx.pulseDue = false → schedule s = s)))
      ∧ (s.tx.helloDue = false → s.pair.link ≠ .up → schedule s = s)))

/-- The record offered and its start (R30, R31, R37, R91): on an ACTIVE unit whose link is UP to a STANDBY in
NORMAL, RESYNC or DRAINING, the oldest record that is not SENT is started if it is PENDING and the SENT count is
below the window; it becomes SENT and transmitted. A resend counts in RETRANSMITS and restarts the retry timer, a
first send starts it when nothing was SENT. The first start of a HANDOVER record commits its handover. An OPEN
record, or a full window, is not passed. Nothing is offered where the role is not ACTIVE, the link not UP, the
partner's role not STANDBY, or the mode CLOSED or TRACKING. -/
def Obligations.OldestUnsentRecordStarts : Prop :=
  (∀ (s : State) (before after : List Rec) (r : Rec),
    s.phase = .running → s.pair.role = .active → s.pair.link = .up → s.tx.serializer = .free →
    s.tx.helloDue = false → s.tx.ackRequest = .none → s.pair.partner.role = .standby →
    (s.stream.mode = .normal ∨ s.stream.mode = .resync ∨ s.stream.mode = .draining) →
    s.list.records = before ++ r :: after → (∀ x ∈ before, x.state = .sent) →
    (∀ x ∈ r :: after, x.state ≠ .sent) →
    (r.state = .pending → before.length < s.cfg.window.toNat → schedule s = { s with
      tx := { s.tx with serializer := .sending (.record r.seq r.body), pulseDue := false, pulseTimer := none }
      list := { s.list with
        records := before ++ { r with state := .sent, transmitted := true } :: after
        retransmits := if r.transmitted then countUp s.list.retransmits else s.list.retransmits
        retryTimer := if r.transmitted ∨ before = [] then some s.cfg.retryTimeout.toNat else s.list.retryTimer }
      mgmt := if (∃ e, r.body = .handoverMark e) ∧ handoverRunning s then
          { s.mgmt with result := { s.mgmt.result with detail := .committed } } else s.mgmt })
    ∧ ((r.state = .opened ∨ s.cfg.window.toNat ≤ before.length) → s.tx.pulseDue = false → schedule s = s))
  ∧ ∀ s : State, s.pair.role ≠ .active ∨ s.pair.link ≠ .up ∨ s.pair.partner.role ≠ .standby
      ∨ s.stream.mode = .closed ∨ s.stream.mode = .tracking → offeredRecord s = none

/-! ### Pairing: HELLO, PULSE, UP -/

/-- A HELLO handed to the pairing controller by the link state (R78), but for one that completes a handover (R92, see
`HandoverConfirmed`). `u` is the unit once the frame has left the buffer, the partner view has taken its values (R80)
and the stale-epoch guard has acted (R83); in OFF that is all. A check that leads to UP may end in
PARTNER_INCONSISTENT (R84), judged by the mode that the frame's effects leave (the model's reading, log 16).
In UP the link leaves for HANDSHAKE, and a handover under way meets it as any departure from UP (R94): in the drain
and marked phases it is cancelled, mode NORMAL, a marked HANDOVER record removed with its number, the result REFUSED
with LINK_LOST; in the committed phase a HELLO that does not report role ACTIVE in the new epoch completes it as
UNCONFIRMED, the unit a CONSISTENT standby of the new epoch. -/
def Obligations.HelloHandledByLinkState : Prop :=
  ∀ (h : Hello) (rest : List Frame) (s : State),
    s.rx.buffer = .hello h :: rest →
    (∀ r ∈ s.list.records, ∀ e, r.body = .handoverMark e → h.role = .active → h.epoch = some e →
      ¬(handoverRunning s = true ∧ s.mgmt.result.detail = .committed)) →
    let view : PartnerView :=
      { heard := true, role := h.role, consistency := h.consistency, epoch := h.epoch, seq := h.seqB,
        streamOpen := h.streamOpen, digest := h.digest }
    let u := staleGuard h (setPartner view { s with rx := { s.rx with buffer := rest } })
    let shaken : State := { u with
      pair := { u.pair with
        link := .handshake
        lossTimer := some (s.pair.lossTimer.getD s.cfg.lossTimeout.toNat) }
      tx := { u.tx with helloDue := true } }
    (s.pair.link = .off → exec .helloReceived s = .next (finish u))
    ∧ (s.pair.link = .down → exec .helloReceived s = .next (finish shaken))
    ∧ (s.pair.link = .up →
      let t := leaveUp .handshake u
      exec .helloReceived s = .next (finish t)
      ∧ (s.pair.role = .active → s.stream.mode = .draining → handoverRunning s = true → standbyOnly s = true →
        t.pair.link = .handshake ∧ t.pair.partner = view ∧ t.pair.drainTimer = none
        ∧ flagSet t.events.flags .commandEnd = true
        ∧ (s.mgmt.result.detail = .drain → (∀ r ∈ s.list.records, ∀ e, r.body ≠ .handoverMark e) →
          t.pair.role = .active ∧ t.stream.mode = .normal ∧ t.list.nextSeq = s.list.nextSeq
            ∧ t.list.records.map Rec.seq = s.list.records.map Rec.seq ∧ t.mgmt.result.state = .refused
            ∧ t.mgmt.result.reason = .linkLost ∧ t.mgmt.result.detail = .drain)
        ∧ ∀ r epoch, s.list.records = [r] → r.body = .handoverMark epoch →
          (s.mgmt.result.detail = .marked →
            t.pair.role = .active ∧ t.stream.mode = .normal ∧ t.list.records = []
              ∧ t.list.nextSeq = s.list.nextSeq - 1#16 ∧ t.mgmt.result.state = .refused
              ∧ t.mgmt.result.reason = .linkLost ∧ t.mgmt.result.detail = .marked)
          ∧ (s.mgmt.result.detail = .committed →
            t.pair.role = .standby ∧ t.apply.consistency = .consistent ∧ t.apply.heldEpoch = some epoch
              ∧ t.apply.expected = r.seq + 1#16 ∧ t.stream.epoch = epoch ∧ t.list.records = []
              ∧ t.list.nextSeq = s.list.nextSeq ∧ t.mgmt.result.state = .done
              ∧ t.mgmt.result.detail = .unconfirmed ∧ flagSet t.events.flags .roleChanged = true)))
    ∧ (h.seen = false →
      (s.pair.link = .handshake →
        exec .helloReceived s = .next (finish { u with tx := { u.tx with helloDue := true } }))
      ∧ (s.pair.link = .conflict ∨ s.pair.link = .mismatch → exec .helloReceived s = .next (finish shaken)))
    ∧ (h.seen = true → s.pair.link = .handshake ∨ s.pair.link = .conflict ∨ s.pair.link = .mismatch →
      exec .helloReceived s = .next (finish
        (judgeFall s.pair.partner h.role h.consistency (checkHandshake h.digest h.role u))))

/-- The judgement of a checked HELLO (R79): digest before roles before agreement; each entry raises its one event
and makes a HELLO due, and a check that leaves MISMATCH or CONFLICT as it was does nothing. -/
def Obligations.CheckedHelloJudged : Prop :=
  ∀ (digest : Half) (role : Role) (s : State),
    s.pair.link = .handshake ∨ s.pair.link = .conflict ∨ s.pair.link = .mismatch →
    let entered (l : LinkState) : State :=
      { s with pair := { s.pair with link := l }, tx := { s.tx with helloDue := true } }
    (digest ≠ regionDigest s.cfg.regions →
      (s.pair.link = .mismatch → checkHandshake digest role s = s)
      ∧ (s.pair.link ≠ .mismatch → checkHandshake digest role s = raise .digestMismatch (entered .mismatch)))
    ∧ (digest = regionDigest s.cfg.regions → role = .active → s.pair.role = .active →
      (s.pair.link = .conflict → checkHandshake digest role s = s)
      ∧ (s.pair.link ≠ .conflict → checkHandshake digest role s = raise .roleConflict (entered .conflict)))
    ∧ (digest = regionDigest s.cfg.regions → (role ≠ .active ∨ s.pair.role ≠ .active) →
      checkHandshake digest role s = enterUp s)

/-- Entering UP (R79, R85, R89, R103): the HELLO request and its timer are gone, the pulse timer starts, a gap is
forgotten, a running promote timer is cancelled, and an ACTIVE unit with a STANDBY partner decides: it resumes at
the partner's sequence if its stream is open in NORMAL or RESYNC, the partner holds its epoch and the sequence
lies from oldest to next, and starts a resync otherwise. LINK_UP is raised last. (Readings of the model: the pulse
timer starts whatever the serializer does, log 22; the resume removes behind the sequence without the bound of an
ACK, log 25, and completes the resync in progress where it removes its END, log 33; where no resume decision is taken
the retry timer stays stopped, whatever is still SENT, log 29.) At a resume a PAUSED walker goes on as RUNNING with no
pause due, from its cursor and block, at the first mirrored chunk from where it stood, past the block where there is
none; a walker in another run state, a FINISHED one among them, keeps it (R124, R132; the walker's part is said of a
resume that removes no marker). -/
def Obligations.EnteringUpDecides : Prop :=
  ∀ s : State,
    let up : State := { s with
      pair := { s.pair with link := .up, helloTimer := none, promoteTimer := none }
      events := { s.events with
        autoPromote := if s.pair.promoteTimer.isSome then .cancelled else s.events.autoPromote }
      tx := { s.tx with helloDue := false, pulseTimer := some s.cfg.pulseInterval.toNat }
      apply := { s.apply with gap := false } }
    let n := s.pair.partner.seq
    let resumes : Prop :=
      s.stream.isOpen = true ∧ (s.stream.mode = .normal ∨ s.stream.mode = .resync)
        ∧ s.pair.partner.epoch = some s.stream.epoch
        ∧ (n = oldestSeq s.list ∨ n = s.list.nextSeq
          ∨ (ahead n (oldestSeq s.list) = true ∧ ahead s.list.nextSeq n = true))
    (s.pair.role ≠ .active ∨ s.pair.partner.role ≠ .standby → enterUp s = raise .linkUp up)
    ∧ (s.pair.role = .active → s.pair.partner.role = .standby →
      (resumes → enterUp s = raise .linkUp (resumeWalker (returnSent (removeBehind n up))))
      ∧ (¬resumes → enterUp s = raise .linkUp (resyncStart up))
      ∧ (resumes →
        (∀ r ∈ s.list.records, (r.body = .endMark ∨ ∃ e, r.body = .handoverMark e) → ahead n r.seq = false) →
        let w := s.walker
        let goesOn (x : Walker) : Prop := (enterUp s).walker = { x with pauseDue := false }
        (w.run ≠ .paused → goesOn w)
        ∧ (w.run = .paused →
          (w.taken = false → goesOn { w with run := .running })
          ∧ (w.taken = true →
            (∀ j < 64, w.nextChunk ≤ j →
              (∀ i < j, w.nextChunk ≤ i → mirroredChunk s.cfg.regions w.cursor i = false) →
              mirroredChunk s.cfg.regions w.cursor j = true → goesOn { w with run := .running, nextChunk := j })
            ∧ ((∀ j < 64, w.nextChunk ≤ j → mirroredChunk s.cfg.regions w.cursor j = false) →
              goesOn { w with run := .running, taken := false, cursor := w.cursor + 1, nextChunk := 0 })))))

/-- The stale-epoch guard (R83): on a STANDBY that holds an epoch, a HELLO of an ACTIVE partner with stream open
clear drops the epoch, the consistency becomes INCONSISTENT, a held record is abandoned and its waiting write
withdrawn (R112), and the expected sequence stays, in every link state. On a unit in another role or with no epoch,
and at a HELLO of a partner that is not ACTIVE or whose stream is open, the guard does nothing. -/
def Obligations.StaleEpochDropped : Prop :=
  (∀ (h : Hello) (rest : List Frame) (s : State) (epoch : Half),
    s.rx.buffer = .hello h :: rest → s.pair.role = .standby → s.apply.heldEpoch = some epoch →
    h.role = .active → h.streamOpen = false → handoverRunning s = false → s.apply.handoverPending = none →
    ∃ t, exec .helloReceived s = .next t
      ∧ t.pair.role = .standby ∧ t.apply.heldEpoch = none ∧ t.apply.consistency = .inconsistent
      ∧ t.apply.held = none ∧ t.apply.expected = s.apply.expected ∧ t.apply.lastFault = s.apply.lastFault
      ∧ (s.apply.held.isSome → t.mem.waiting = none)
      ∧ t.pair.partner = { heard := true, role := .active, consistency := h.consistency, epoch := h.epoch,
                           seq := h.seqB, streamOpen := false, digest := h.digest })
  ∧ ∀ (h : Hello) (s : State),
    s.pair.role ≠ .standby ∨ s.apply.heldEpoch = none ∨ h.role ≠ .active ∨ h.streamOpen = true → staleGuard h s = s

/-- A PULSE (R80): the partner view takes its values, but for stream open and digest; in HANDSHAKE the unit enters
UP where R79 would, and does not act as an ACK as well (the model's reading, log 21); in UP it acts as an ACK when a
STANDBY that holds the current epoch sent it (R35). A fall of a STANDBY partner to INCONSISTENT then raises
PARTNER_INCONSISTENT while records flow (R84), judged by the role, link and mode that the frame's effects leave (the
model's reading, log 16). A partner whose role is not STANDBY pauses a RUNNING walker, at once or, with a SYNC record
open, when that is filled (R124). -/
def Obligations.PulseUpdatesTheView : Prop :=
  (∀ (p : Pulse) (rest : List Frame) (s : State), s.rx.buffer = .pulse p :: rest →
    let old := s.pair.partner
    let view : PartnerView :=
      { old with heard := true, role := p.role, consistency := p.consistency, epoch := p.epoch, seq := p.seq }
    let viewed : State := { s with
      rx := { s.rx with buffer := rest }
      pair := { s.pair with partner := view } }
    let u := if p.role = .standby then viewed else pauseWalker viewed
    let acted :=
      if s.pair.link = .handshake ∧ old.digest = regionDigest s.cfg.regions
          ∧ ¬(p.role = .active ∧ s.pair.role = .active) then enterUp u
      else if s.pair.link = .up ∧ p.role = .standby ∧ p.epoch = some s.stream.epoch then takeAck p.seq u
      else u
    let fell : Prop :=
      p.role = .standby ∧ p.consistency = .inconsistent ∧ old.role = .standby ∧ old.consistency ≠ .inconsistent
        ∧ acted.pair.role = .active ∧ acted.pair.link = .up
        ∧ (acted.stream.mode = .normal ∨ acted.stream.mode = .resync ∨ acted.stream.mode = .draining)
    (fell → exec .pulseReceived s = .next (finish (raise .partnerInconsistent acted)))
    ∧ (¬fell → exec .pulseReceived s = .next (finish acted)))
  ∧ ∀ s : State,
    (s.walker.run ≠ .running → pauseWalker s = s)
    ∧ (s.walker.run = .running →
      ((∃ r ∈ s.list.records, isOpenSync r = true) →
        pauseWalker s = { s with walker := { s.walker with pauseDue := true } })
      ∧ ((∀ r ∈ s.list.records, isOpenSync r = false) →
        pauseWalker s = { s with walker := { s.walker with run := .paused } }))

/-! ### Pairing: answers and their ends -/

/-- An ACK(n) (R33, R34): taken by an ACTIVE unit with its link UP in NORMAL, RESYNC or DRAINING, ignored otherwise.
At or behind the oldest sequence it is stale; up to the bound it removes every record behind n (here with no marker
whose removal is reported, see the second clause and `HandoverConfirmed`); beyond, it is a protocol fault, which
returns the link to HANDSHAKE; a sequence 32768 away counts as beyond (the model's choice, log 7). The
acknowledgement of the END of the resync in progress completes it (R27, R131): mode NORMAL, the open WRITE record
closes, the walker stops and keeps its cursor, with no block taken (the model's choice, log 11), outcome COMPLETE,
RESYNC_END. -/
def Obligations.AckRemovesBehind : Prop :=
  (∀ (n bound : Half) (rest : List Frame) (s : State),
    s.rx.buffer = .ack n :: rest → s.pair.role = .active → isBound s.list bound →
    let u : State := { s with rx := { s.rx with buffer := rest } }
    let streams : Prop :=
      s.pair.link = .up ∧ (s.stream.mode = .normal ∨ s.stream.mode = .resync ∨ s.stream.mode = .draining)
    (¬streams → exec .ackReceived s = .next (finish u))
    ∧ (streams →
      (n = oldestSeq s.list ∨ ahead (oldestSeq s.list) n = true → exec .ackReceived s = .next (finish u))
      ∧ (∀ removed kept, s.list.records = removed ++ kept → removed ≠ [] → splitAt n removed kept →
          n = bound ∨ ahead bound n = true → (∀ r ∈ removed, ∀ e, r.body ≠ .endMark ∧ r.body ≠ .handoverMark e) →
          exec .ackReceived s = .next (finish (progressed removed kept u)))
      ∧ (n ≠ oldestSeq s.list → ahead (oldestSeq s.list) n = false → n ≠ bound → ahead bound n = false →
          exec .ackReceived s = .next (finish (leaveUp .handshake u)))))
  ∧ (∀ (n bound : Half) (rest : List Frame) (s : State) (removed kept : List Rec),
    s.rx.buffer = .ack n :: rest → s.pair.role = .active → s.pair.link = .up → s.stream.mode = .resync →
    isBound s.list bound → n = bound ∨ ahead bound n = true → s.list.records = removed ++ kept →
    splitAt n removed kept → (∃ r ∈ removed, r.body = .endMark) →
    (∀ r ∈ removed, ∀ e, r.body ≠ .handoverMark e) →
    let p := progressed removed kept { s with rx := { s.rx with buffer := rest } }
    exec .ackReceived s = .next (finish (raise .resyncEnd { p with
      stream := { p.stream with mode := .normal }
      list := closeWrite p.list
      walker := { p.walker with run := .stopped, pauseDue := false, taken := false, outcome := .complete }
      mem := (withdrawInternal p).mem })))

/-- A NAK(n) (R36): behind the oldest sequence, or at it with nothing transmitted, it is stale; up to the bound it
removes as an ACK does, and every record left SENT returns to PENDING, the retry timer stopping; beyond, it is a
protocol fault; a sequence 32768 away counts as beyond (the model's choice, log 7). A NAK that removes the END of the
resync in progress completes it as an ACK does (R27, R131; no block taken, the model's choice, log 11), and what is
left SENT then returns to PENDING. For one that removes the HANDOVER record see `HandoverConfirmed`. -/
def Obligations.NakReturnsSent : Prop :=
  (∀ (n bound : Half) (rest : List Frame) (s : State),
    s.rx.buffer = .nak n :: rest → s.pair.role = .active → isBound s.list bound →
    let u : State := { s with rx := { s.rx with buffer := rest } }
    let streams : Prop :=
      s.pair.link = .up ∧ (s.stream.mode = .normal ∨ s.stream.mode = .resync ∨ s.stream.mode = .draining)
    (¬streams → exec .nakReceived s = .next (finish u))
    ∧ (streams →
      (ahead (oldestSeq s.list) n = true
          ∨ (n = oldestSeq s.list ∧ ∀ r ∈ s.list.records, r.transmitted = false) →
        exec .nakReceived s = .next (finish u))
      ∧ (∀ removed kept, s.list.records = removed ++ kept → splitAt n removed kept →
          ahead (oldestSeq s.list) n = false → n = bound ∨ ahead bound n = true →
          (∃ r ∈ s.list.records, r.transmitted = true) →
          (∀ r ∈ removed, ∀ e, r.body ≠ .endMark ∧ r.body ≠ .handoverMark e) →
          let p := if removed = [] then u else progressed removed kept u
          exec .nakReceived s = .next (finish { p with list := { p.list with
            records := p.list.records.map (fun r => if r.state = .sent then { r with state := .pending } else r)
            retryTimer := none } }))
      ∧ (n ≠ oldestSeq s.list → ahead (oldestSeq s.list) n = false → n ≠ bound → ahead bound n = false →
          exec .nakReceived s = .next (finish (leaveUp .handshake u)))))
  ∧ ∀ (n bound : Half) (rest : List Frame) (s : State) (removed kept : List Rec),
    s.rx.buffer = .nak n :: rest → s.pair.role = .active → s.pair.link = .up → s.stream.mode = .resync →
    isBound s.list bound → n = bound ∨ ahead bound n = true → s.list.records = removed ++ kept →
    splitAt n removed kept → (∃ r ∈ removed, r.body = .endMark) →
    (∀ r ∈ removed, ∀ e, r.body ≠ .handoverMark e) →
    let p := progressed removed kept { s with rx := { s.rx with buffer := rest } }
    let completed : State := raise .resyncEnd { p with
      stream := { p.stream with mode := .normal }
      list := closeWrite p.list
      walker := { p.walker with run := .stopped, pauseDue := false, taken := false, outcome := .complete }
      mem := (withdrawInternal p).mem }
    exec .nakReceived s = .next (finish { completed with list := { completed.list with
      records := completed.list.records.map (fun r =>
        if r.state = .sent then { r with state := .pending } else r)
      retryTimer := none } })

/-- The HANDOVER record's removal by an ACK or a NAK of its sequence + 1 completes the handover on the old active
(R27, R36, R92): it becomes a CONSISTENT standby of the new epoch, its list and map empty, its next sequence kept,
its link in HANDSHAKE, and the result is DONE with CONFIRMED, ROLE_CHANGED and COMMAND_END raised. A held write is
judged as a STANDBY's. In the committed phase a HELLO that reports role ACTIVE in the new epoch completes it as well
(R92), and the partner view and the stale-epoch guard take that HELLO with the unit already STANDBY (R80, R83): with
stream open clear the new epoch is dropped again and the consistency INCONSISTENT. The link, UP as the HELLO found
it, is then in HANDSHAKE, where the same HELLO is not judged again (the model's reading, log 15). -/
def Obligations.HandoverConfirmed : Prop :=
  ∀ (epoch : Half) (rest : List Frame) (r : Rec) (s : State),
    s.pair.role = .active → s.pair.link = .up → s.stream.mode = .draining → handoverRunning s = true →
    s.list.records = [r] → r.body = .handoverMark epoch → r.transmitted = true →
    let confirmed (t : State) : Prop :=
      t.pair.role = .standby ∧ t.pair.link = .handshake ∧ t.stream.mode = .closed ∧ t.stream.isOpen = false
      ∧ t.stream.basisValid = false ∧ t.stream.epoch = epoch ∧ t.apply.expected = r.seq + 1#16
      ∧ t.list.records = [] ∧ t.list.nextSeq = s.list.nextSeq ∧ t.list.reserved = false ∧ t.dirty = []
      ∧ t.pair.drainTimer = none ∧ t.mgmt.result.command = some .handover ∧ t.mgmt.result.state = .done
      ∧ t.mgmt.result.reason = .none ∧ t.mgmt.result.detail = .confirmed
      ∧ flagSet t.events.flags .roleChanged = true ∧ flagSet t.events.flags .commandEnd = true
      ∧ ∀ k q c b, s.host.port = .held k q c b → q.kind = .write →
        (guardAt s.cfg.regions (4 * q.addr.toNat) = .guarded →
          t.host.port = .idle ∧ t.host.response = some .fault ∧ t.host.lastGuardAddr = q.addr)
        ∧ (guardAt s.cfg.regions (4 * q.addr.toNat) = .opened → ∃ c', t.host.port = .forwarded q c' false)
    let holds (t : State) : Prop := t.apply.consistency = .consistent ∧ t.apply.heldEpoch = some epoch
    (∀ n, n = r.seq + 1#16 → (s.rx.buffer = .ack n :: rest →
        ∃ t, exec .ackReceived s = .next t ∧ confirmed t ∧ holds t)
      ∧ (s.rx.buffer = .nak n :: rest → ∃ t, exec .nakReceived s = .next t ∧ confirmed t ∧ holds t))
    ∧ ∀ h : Hello, s.rx.buffer = .hello h :: rest → s.mgmt.result.detail = .committed → h.role = .active →
      h.epoch = some epoch →
      ∃ t, exec .helloReceived s = .next t ∧ confirmed t
        ∧ t.pair.partner = { heard := true, role := .active, consistency := h.consistency, epoch := some epoch,
                             seq := h.seqB, streamOpen := h.streamOpen, digest := h.digest }
        ∧ (h.streamOpen = true → holds t)
        ∧ (h.streamOpen = false → t.apply.consistency = .inconsistent ∧ t.apply.heldEpoch = none)

/-- The retry timer's expiry (R38): every SENT record returns to PENDING and the retry count rises; at the retry
limit the link leaves UP for DOWN with LINK_LOST.
The loss timer's expiry (R82): in UP the link leaves UP for DOWN with LINK_LOST; in HANDSHAKE, CONFLICT and
MISMATCH it enters DOWN without it, a HELLO due and the loss timer stopped. -/
def Obligations.RetryAndLossTimersExpire : Prop :=
  (∀ (d : Nat) (s : State), s.list.retryTimer = some d → s.pair.link = .up →
    let t : State := { s with list := { s.list with
      records := s.list.records.map (fun r => if r.state = .sent then { r with state := .pending } else r)
      retryTimer := none
      retryCount := s.list.retryCount + 1 } }
    (s.list.retryCount + 1 < s.cfg.retryLimit.toNat → exec .retryTimerExpiry s = .next (finish t))
    ∧ (s.cfg.retryLimit.toNat ≤ s.list.retryCount + 1 →
      exec .retryTimerExpiry s = .next (finish (raise .linkLost (leaveUp .down t)))))
  ∧ (∀ (d : Nat) (s : State), s.pair.lossTimer = some d →
    (s.pair.link = .up → exec .lossTimerExpiry s = .next (finish (raise .linkLost (leaveUp .down s))))
    ∧ (s.pair.link = .handshake ∨ s.pair.link = .conflict ∨ s.pair.link = .mismatch →
      exec .lossTimerExpiry s = .next (finish { s with
        pair := { s.pair with link := .down, lossTimer := none }
        tx := { s.tx with helloDue := true } })))

/-- Leaving UP with no handover under way and none pending (R39, R66, R67, R81, R124, R148): the retry timer, the
retry count, the pulse timer and a due PULSE are gone, the walker pauses (one with a SYNC record open keeps RUNNING
with the pause due until that record closes: the model's reading, log 13), a confirm wait ends with FAULT and
CONFIRM_FAIL, and the new state is entered with a HELLO due and its timer started, but in OFF. The records keep
their states, the acknowledgement request is held.
A departure from UP during a handover (R94): in the drain and marked phases it is cancelled, mode NORMAL, a marked
HANDOVER record removed with its number, the result REFUSED with LINK_LOST; in the committed phase it completes with
outcome UNCONFIRMED, the unit a CONSISTENT standby of the new epoch. -/
def Obligations.LeavingUp : Prop :=
  (∀ (new : LinkState) (s : State), s.pair.link = .up → (new = .down ∨ new = .handshake ∨ new = .off) →
    handoverRunning s = false → s.apply.handoverPending = none →
    let waits := isWithheld s
    let t : State := { s with
      pair := { s.pair with
        link := new
        helloTimer := if new = .off then none else some s.cfg.helloInterval.toNat
        lossTimer := if new = .handshake then some (s.pair.lossTimer.getD s.cfg.lossTimeout.toNat) else none }
      tx := { s.tx with helloDue := decide (new ≠ .off), pulseDue := false, pulseTimer := none }
      list := { s.list with
        records := if waits then clearWaiters s.list.records else s.list.records
        retryTimer := none
        retryCount := 0 }
      walker := { s.walker with
        run := if s.walker.run = .running ∧ fillsSync s.list = false then .paused else s.walker.run
        pauseDue := decide (s.walker.run = .running ∧ fillsSync s.list = true) || s.walker.pauseDue }
      host := if waits then { s.host with port := .idle, response := some .fault, confirmTimer := none }
        else s.host }
    (waits = true → leaveUp new s = raise .confirmFail t) ∧ (waits = false → leaveUp new s = t))
  ∧ (∀ (new : LinkState) (s : State), s.pair.link = .up → s.pair.role = .active → s.stream.mode = .draining →
    (new = .down ∨ new = .handshake ∨ new = .off) → handoverRunning s = true → standbyOnly s = true →
    let t := leaveUp new s
    t.pair.drainTimer = none ∧ flagSet t.events.flags .commandEnd = true
    ∧ (s.mgmt.result.detail = .drain → (∀ r ∈ s.list.records, ∀ e, r.body ≠ .handoverMark e) →
      t.pair.role = .active ∧ t.stream.mode = .normal ∧ t.list.nextSeq = s.list.nextSeq
        ∧ t.list.records.map Rec.seq = s.list.records.map Rec.seq ∧ t.mgmt.result.state = .refused
        ∧ t.mgmt.result.reason = .linkLost ∧ t.mgmt.result.detail = .drain ∧ t.pair.link = new)
    ∧ (∀ r epoch, s.list.records = [r] → r.body = .handoverMark epoch →
      (s.mgmt.result.detail = .marked →
        t.pair.role = .active ∧ t.stream.mode = .normal ∧ t.list.records = []
          ∧ t.list.nextSeq = s.list.nextSeq - 1#16 ∧ t.mgmt.result.state = .refused
          ∧ t.mgmt.result.reason = .linkLost ∧ t.mgmt.result.detail = .marked ∧ t.pair.link = new)
      ∧ (s.mgmt.result.detail = .committed →
        t.pair.role = .standby ∧ t.apply.consistency = .consistent ∧ t.apply.heldEpoch = some epoch
          ∧ t.apply.expected = r.seq + 1#16 ∧ t.stream.epoch = epoch ∧ t.list.records = []
          ∧ t.list.nextSeq = s.list.nextSeq ∧ t.mgmt.result.state = .done
          ∧ t.mgmt.result.detail = .unconfirmed ∧ t.pair.link = new
          ∧ flagSet t.events.flags .roleChanged = true)))

/-! ### Roles and handover -/

/-- The promote timer's expiry (R89): a CONSISTENT standby whose link is not UP becomes ACTIVE with mode CLOSED and
its held epoch, the status PROMOTED; otherwise the status is DECLINED and the role stays.
The drain timer's expiry in the drain phase (R91): mode NORMAL, the result REFUSED with DRAIN_TIMEOUT, COMMAND_END.
When the list of a draining unit holds no record and no reservation, the HANDOVER record is appended with the next
epoch and the next sequence; the drain timer stops and the phase becomes marked (R27, R91). -/
def Obligations.PromoteAndDrainTimersExpire : Prop :=
  (∀ (d : Nat) (s : State), s.pair.promoteTimer = some d →
    let judged (a : AutoPromote) : State := { s with
      pair := { s.pair with promoteTimer := none }
      events := { s.events with autoPromote := a } }
    let promotes : Prop := s.pair.role = .standby ∧ s.apply.consistency = .consistent ∧ s.pair.link ≠ .up
    (promotes → exec .promoteTimerExpiry s = .next (finish (changeRole .active { judged .promoted with
      stream := { s.stream with epoch := s.apply.heldEpoch.getD s.stream.epoch } })))
    ∧ (¬promotes → exec .promoteTimerExpiry s = .next (finish (judged .declined))))
  ∧ (∀ (d : Nat) (s : State), s.pair.drainTimer = some d → handoverRunning s = true →
    s.mgmt.result.detail = .drain → (∀ r ∈ s.list.records, ∀ e, r.body ≠ .handoverMark e) →
    exec .drainTimerExpiry s = .next (finish (raise .commandEnd { s with
      stream := { s.stream with mode := .normal }
      pair := { s.pair with drainTimer := none }
      mgmt := { s.mgmt with result := { s.mgmt.result with state := .refused, reason := .drainTimeout } } })))
  ∧ ∀ s : State, handoverRunning s = true → s.mgmt.result.detail = .drain → s.stream.mode = .draining →
    s.list.records = [] → s.list.reserved = false →
    exec .handoverMarkerAppend s = .next (finish { s with
      list := { s.list with
        records := [{ seq := s.list.nextSeq
                      body := .handoverMark (s.stream.epoch + 1#16)
                      state := .pending
                      waiter := false
                      transmitted := false }]
        nextSeq := s.list.nextSeq + 1#16 }
      pair := { s.pair with drainTimer := none }
      mgmt := { s.mgmt with result := { s.mgmt.result with detail := .marked } } })

/-- A change of role (R74, R75, R89, R98, R135, R153, R164). The new role starts with a closed stream and a fresh
standby state; the epoch counter, the next sequence, the partner view and the last apply fault are kept. The link
leaves UP, CONFLICT or MISMATCH for HANDSHAKE, a HELLO is due but in OFF, the promote timer stops, and the internal
requester's transaction is withdrawn or disowned. A unit that leaves ACTIVE gives up its list, map and walker, a
confirm wait ends with FAULT and a forwarded CONFIRM write that holds a reservation is condemned; its walker has no
block taken and, outside RESYNC, keeps its cursor (R135 resets it in RESYNC; the model's choice elsewhere, log 11);
a unit that leaves STANDBY gives up its acknowledgement request. -/
def Obligations.RoleChange : Prop :=
  ∀ (new : Role) (s : State),
    let t := changeRole new s
    t.pair.role = new ∧ t.cfg = s.cfg ∧ t.mgmt = s.mgmt ∧ t.pair.partner = s.pair.partner
    ∧ t.stream = { s.stream with mode := .closed, isOpen := false, basisValid := false }
    ∧ t.apply = { consistency := .inconsistent, heldEpoch := none, expected := 0#16, gap := false, held := none,
                  handoverPending := none, lastFault := s.apply.lastFault }
    ∧ t.list.nextSeq = s.list.nextSeq ∧ t.mem.waiting = none ∧ t.mem.fairness = 0
    ∧ (∀ q, s.mem.bus = some (.host q) → t.mem.bus = some (.host q))
    ∧ (∀ op b, s.mem.bus = some (.internal op b) → t.mem.bus = some (.internal op true))
    ∧ (s.pair.link = .up ∨ s.pair.link = .conflict ∨ s.pair.link = .mismatch → t.pair.link = .handshake)
    ∧ (s.pair.link = .off ∨ s.pair.link = .down ∨ s.pair.link = .handshake → t.pair.link = s.pair.link)
    ∧ (s.pair.link ≠ .off → t.tx.helloDue = true) ∧ (s.pair.link = .off → t.tx.helloDue = s.tx.helloDue)
    ∧ (s.pair.link = .up → t.list.retryTimer = none ∧ t.list.retryCount = 0
        ∧ t.tx.pulseTimer = none ∧ t.tx.pulseDue = false)
    ∧ t.pair.promoteTimer = none
    ∧ t.events.autoPromote = (if s.pair.promoteTimer.isSome then .cancelled else s.events.autoPromote)
    ∧ flagSet t.events.flags .roleChanged = true
    ∧ (s.pair.role = .active →
        t.list.records = [] ∧ t.list.reserved = false ∧ t.list.waitingMarker = none ∧ t.dirty = []
        ∧ t.walker.run = .stopped ∧ t.walker.taken = false ∧ t.walker.autoRequest = false
        ∧ (s.walker.autoRequest = true → t.events.autoResync = .noEffect)
        ∧ (s.walker.autoRequest = false → t.events.autoResync = s.events.autoResync)
        ∧ (s.stream.mode = .resync → t.walker.outcome = .interrupted ∧ t.walker.cursor = 0)
        ∧ (s.stream.mode ≠ .resync → t.walker.outcome = s.walker.outcome ∧ t.walker.cursor = s.walker.cursor)
        ∧ (∀ q, s.host.port = .withheld q → t.host.port = .idle ∧ t.host.response = some .fault
            ∧ t.host.confirmTimer = none ∧ flagSet t.events.flags .confirmFail = true)
        ∧ (∀ q c, s.host.port = .forwarded q c false → s.list.reserved = true → q.kind = .write →
            c.role = .active → c.policy = .confirm →
            t.host.port = .forwarded q c true ∧ flagSet t.events.flags .confirmFail = true))
    ∧ (s.pair.role = .standby → t.tx.ackRequest = .none)

/-- The unit with a handover pending takes the role ACTIVE (R93, R108): stream NORMAL and open in the HANDOVER
record's epoch, the next sequence the record's + 1, an empty list and a clear map, the standby state given up, and
the link leaves UP for HANDSHAKE, with ROLE_CHANGED. It does so when the link leaves UP while the ACK waits, too. -/
def Obligations.HandoverRoleTaken : Prop :=
  ∀ (epoch seq : Half) (s : State),
    s.pair.role = .standby → s.apply.handoverPending = some (epoch, seq) → inactiveEmpty s = true →
    let became (t : State) : Prop :=
      t.pair.role = .active ∧ t.stream.mode = .normal ∧ t.stream.isOpen = true ∧ t.stream.epoch = epoch
      ∧ t.stream.basisValid = false ∧ t.list.nextSeq = seq + 1#16 ∧ t.list.records = [] ∧ t.dirty = []
      ∧ t.apply.heldEpoch = none ∧ t.apply.consistency = .inconsistent ∧ t.apply.handoverPending = none
      ∧ t.tx.ackRequest = .none ∧ flagSet t.events.flags .roleChanged = true
    became (takeHandoverRole s)
    ∧ (s.pair.link = .up → (takeHandoverRole s).pair.link = .handshake ∧ (takeHandoverRole s).tx.helloDue = true)
    ∧ ∀ new : LinkState, s.pair.link = .up → new = .down ∨ new = .handshake ∨ new = .off →
        handoverRunning s = false → became (leaveUp new s)

/-! ### The apply engine -/

/-- A RECORD is judged by the first case that fits it (R99 to R103). The free engine of a STANDBY takes the oldest
frame; a BEGIN of a new epoch is accepted whatever its sequence; with no epoch held any other record is discarded
unanswered; a record behind the expected sequence is discarded and acknowledged; one ahead of it is discarded, with
a NAK unless a gap is already reported. A busy engine leaves the frame where it is. -/
def Obligations.RecordJudged : Prop :=
  ∀ (seq : Half) (body : RecordBody) (rest : List Frame) (s : State),
    s.rx.buffer = .record seq body :: rest → s.pair.role = .standby →
    let u : State := { s with rx := { s.rx with buffer := rest } }
    let asked : AckRequest := if s.tx.ackRequest = .none then .ack else s.tx.ackRequest
    (s.apply.held.isSome ∨ s.apply.handoverPending.isSome → exec .recordTaken s = .next s)
    ∧ (s.apply.held = none → s.apply.handoverPending = none →
      (∀ epoch scope, body = .beginMark epoch scope → s.apply.heldEpoch ≠ some epoch →
        exec .recordTaken s = .next (finish { u with
          apply := { s.apply with
            heldEpoch := some epoch
            expected := seq + 1#16
            gap := false
            consistency :=
              if scope = .full then .resyncing
              else if s.apply.consistency = .inconsistent then .inconsistent else .resyncing }
          tx := { s.tx with ackRequest := asked } }))
      ∧ (s.apply.heldEpoch = none → (∀ epoch scope, body ≠ .beginMark epoch scope) →
        exec .recordTaken s = .next (finish u))
      ∧ (∀ held, s.apply.heldEpoch = some held →
        (∀ epoch scope, body = .beginMark epoch scope → epoch = held) → seq ≠ s.apply.expected →
        (ahead s.apply.expected seq = true →
          exec .recordTaken s = .next (finish { u with tx := { s.tx with ackRequest := asked } }))
        ∧ (ahead s.apply.expected seq = false →
          (s.apply.gap = true → exec .recordTaken s = .next (finish u))
          ∧ (s.apply.gap = false → exec .recordTaken s = .next (finish { u with
              apply := { s.apply with gap := true }
              tx := { s.tx with ackRequest := .nak } })))))

/-- A record in turn is applied by its kind (R104, R107, R108). A WRITE or SYNC record whose words lie within its
enabled region is held and its first word's write asked for, but not while a transaction of the internal requester
is still in progress (R151; log 36; it is asked for at that answer, see `ApplyWriteAnswered`); one that fails the
region check is an apply fault (R106, R113). A BEGIN of the held epoch and an END set the consistency, and a
HANDOVER waits for the start of its ACK, or gives the role at once when the link is not UP. -/
def Obligations.RecordAppliedInTurn : Prop :=
  ∀ (seq held : Half) (body : RecordBody) (rest : List Frame) (s : State),
    s.rx.buffer = .record seq body :: rest → s.pair.role = .standby → s.apply.held = none →
    s.apply.handoverPending = none → s.apply.heldEpoch = some held → seq = s.apply.expected →
    let u : State := { s with rx := { s.rx with buffer := rest } }
    let applied (c : Consistency) : State := { u with
      apply := { s.apply with expected := s.apply.expected + 1#16, gap := false, consistency := c }
      tx := { s.tx with ackRequest := if s.tx.ackRequest = .none then .ack else s.tx.ackRequest } }
    (∀ kind region start w words, body = .data kind region start (w :: words) →
      let e := regionAt s.cfg.regions region
      let fits : Prop := e.enabled = true ∧ 256 * e.base.toNat ≤ 4 * start.toNat
        ∧ 4 * start.toNat + 4 * (words.length + 1) ≤ 256 * e.base.toNat + 256 * (e.countLess1.toNat + 1)
      (fits → exec .recordTaken s = .next (finish { u with
        apply := { s.apply with held := some { seq := seq, start := start, words := w :: words, next := 0 } }
        mem := match s.mem.bus with
          | some (.internal _ _) => s.mem
          | _ => { s.mem with waiting := some (.applyWrite start w.mask w.data) } }))
      ∧ (¬fits → exec .recordTaken s = .next (finish (raise .applyFault { applied .inconsistent with
          apply := { (applied .inconsistent).apply with
            lastFault := { cause := .regionCheck, seq := seq, addr := start } } }))))
    ∧ (∀ scope, body = .beginMark held scope → exec .recordTaken s = .next (finish (applied
        (if scope = .full then .resyncing
         else if s.apply.consistency = .inconsistent then .inconsistent else .resyncing))))
    ∧ (body = .endMark → exec .recordTaken s = .next (finish (applied
        (if s.apply.consistency = .resyncing then .consistent else s.apply.consistency))))
    ∧ (∀ epoch, body = .handoverMark epoch →
      let waiting : State := { applied s.apply.consistency with
        apply := { (applied s.apply.consistency).apply with handoverPending := some (epoch, seq) } }
      (s.pair.link = .up → exec .recordTaken s = .next (finish waiting))
      ∧ (s.pair.link ≠ .up → exec .recordTaken s = .next (finish (takeHandoverRole waiting))))

/-- Memory's answer to a word of the held record (R105, R106, R153): after an OK the next word's write is asked for,
or after the last the record has been applied and an ACK is asked for; a FAULT is an apply fault at that word. The
answer of a disowned transaction is discarded, and only then does a requester that needs a word ask for it (R151;
that a transaction of the former role counts is the model's reading, log 36). -/
def Obligations.ApplyWriteAnswered : Prop :=
  (∀ (answer : MemAnswer) (a : WordAddr) (m : LaneMask) (d : Word) (s : State),
    s.mem.bus = some (.internal (.applyWrite a m d) true) →
    ∃ t, exec (.applyWriteAnswer answer) s = .next t ∧ discarded s t)
  ∧ ∀ (a : WordAddr) (m : LaneMask) (d data : Word) (h : HeldRecord) (s : State),
    s.mem.bus = some (.internal (.applyWrite a m d) false) → s.apply.held = some h →
    let u : State := { s with mem := { s.mem with bus := none } }
    let applied : State := { u with
      apply := { s.apply with held := none, expected := s.apply.expected + 1#16, gap := false }
      tx := { s.tx with ackRequest := if s.tx.ackRequest = .none then .ack else s.tx.ackRequest } }
    (∀ w, h.words[h.next + 1]? = some w →
      exec (.applyWriteAnswer (.ok data)) s = .next (finish { u with
        apply := { s.apply with held := some { h with next := h.next + 1 } }
        mem := { u.mem with
          waiting := some (.applyWrite (BitVec.ofNat 22 (h.start.toNat + (h.next + 1))) w.mask w.data) } }))
    ∧ (h.words.length ≤ h.next + 1 →
      exec (.applyWriteAnswer (.ok data)) s = .next (finish applied))
    ∧ exec (.applyWriteAnswer .fault) s = .next (finish (raise .applyFault { applied with
        apply := { applied.apply with
          consistency := .inconsistent
          lastFault := { cause := .memory, seq := h.seq
                         addr := BitVec.ofNat 22 (h.start.toNat + h.next) } } }))

/-! ### Dirty map, resync and spill -/

/-- A resync start (R120 to R122, R124, R153). The epoch counter rises by one, the stream is open in RESYNC with no
basis, and the walker stands at block 0 with no block taken, RUNNING when the link is UP with a STANDBY partner and
PAUSED otherwise. Scope PARTIAL, when the partner holds a valid basis epoch, keeps list and map; scope FULL discards
the list's records, ending a confirm wait with FAULT, and marks every mirrored block. The BEGIN marker of the new
epoch is appended, or waits where no entry is there for it, and a marker that waited before is withdrawn: an END of
the old walk among them (R28, R134; the model's reading, log 31). A waiting internal request is withdrawn, and an
internal transaction in progress, a walker read among them, is disowned; a host transaction stays (R130, R153). -/
def Obligations.ResyncStart : Prop :=
  ∀ s : State,
    let t := resyncStart s
    let epoch := s.stream.epoch + 1#16
    let isPartial : Prop := s.stream.basisValid = true ∧ s.pair.partner.epoch = some s.stream.basisEpoch
    let mark (scope : Scope) : Rec :=
      { seq := s.list.nextSeq, body := .beginMark epoch scope, state := .pending, waiter := false
        transmitted := false }
    let kept : List Rec := if s.stream.mode = .resync then s.list.records else (closeWrite s.list).records
    t.stream = { mode := .resync, isOpen := true, epoch := epoch, basisEpoch := s.stream.basisEpoch
                 basisValid := false }
    ∧ t.walker.run = (if s.pair.link = .up ∧ s.pair.partner.role = .standby then .running else .paused)
    ∧ t.walker.pauseDue = false ∧ t.walker.cursor = 0 ∧ t.walker.taken = false ∧ t.walker.outcome = .running
    ∧ t.walker.epoch = epoch ∧ t.walker.autoRequest = s.walker.autoRequest
    ∧ t.mem = (withdrawInternal s).mem ∧ t.mem.waiting = none ∧ t.mem.fairness = 0
    ∧ (∀ op b, s.mem.bus = some (.internal op b) → t.mem.bus = some (.internal op true))
    ∧ ((∀ op b, s.mem.bus ≠ some (.internal op b)) → t.mem.bus = s.mem.bus)
    ∧ t.cfg = s.cfg ∧ t.pair = s.pair ∧ t.apply = s.apply ∧ t.list.reserved = s.list.reserved
    ∧ (isPartial → t.walker.scope = .partialScope ∧ t.dirty = s.dirty ∧ t.host = s.host ∧ t.events = s.events
      ∧ (occupancy s.list + (hostWaits s).toNat < 64 →
          t.list.records = kept ++ [mark .partialScope] ∧ t.list.nextSeq = s.list.nextSeq + 1#16
            ∧ t.list.waitingMarker = none)
      ∧ (64 ≤ occupancy s.list + (hostWaits s).toNat → t.list.records = kept
          ∧ t.list.nextSeq = s.list.nextSeq ∧ t.list.waitingMarker = some (.beginMark epoch .partialScope)))
    ∧ (¬isPartial → t.walker.scope = .full ∧ t.list.records = [mark .full]
      ∧ t.list.nextSeq = s.list.nextSeq + 1#16 ∧ t.list.waitingMarker = none
      ∧ (∀ b, b ∈ t.dirty ↔ b < 4096 ∧ (b ∈ s.dirty ∨ ∃ k < 64, policyAt s.cfg.regions (4096 * b + 64 * k) ≠ .pass))
      ∧ (s.list.records ≠ [] → t.list.retryTimer = none ∧ t.list.retryCount = 0
        ∧ ∀ q, s.host.port = .withheld q → t.host.port = .idle ∧ t.host.response = some .fault
            ∧ t.host.confirmTimer = none ∧ flagSet t.events.flags .confirmFail = true)
      ∧ (isWithheld s = false → t.host = s.host ∧ t.events = s.events))

/-- A spill (R44, R133): the blocks that the list's records cover and the walker's current block are marked, the
mode becomes TRACKING with the current epoch as valid basis, the walker stops with no block taken (log 11), a resync
in progress is INTERRUPTED, the list is emptied with its reservation cancelled, a confirm wait ends with FAULT and a
forwarded CONFIRM write is condemned, and SPILLED is raised. With the link UP and a STANDBY partner a resync start
follows at once (R45). -/
def Obligations.Spill : Prop :=
  ∀ s : State,
    let u := spillCore s
    spill s = (if s.pair.link = .up ∧ s.pair.partner.role = .standby then resyncStart u else u)
    ∧ u.stream = { s.stream with mode := .tracking, basisEpoch := s.stream.epoch, basisValid := true }
    ∧ u.list = { s.list with records := [], reserved := false, waitingMarker := none, coalesceTimer := none
                             retryTimer := none, retryCount := 0 }
    ∧ (∀ b, b ∈ u.dirty ↔ b ∈ s.dirty ∨ (s.walker.taken = true ∧ b = s.walker.cursor)
        ∨ ∃ r ∈ s.list.records, ∃ region start words,
            (r.body = .data .write region start words ∧ ∃ i < words.length, b = blockOf (wordAfter start i))
              ∨ (r.body = .data .sync region start words ∧ b = blockOf start))
    ∧ u.walker = { s.walker with run := .stopped, pauseDue := false, taken := false
                                 outcome := if s.stream.mode = .resync then .interrupted else s.walker.outcome }
    ∧ u.mem = (withdrawInternal s).mem ∧ u.cfg = s.cfg ∧ u.pair = s.pair ∧ u.apply = s.apply ∧ u.mgmt = s.mgmt
    ∧ flagSet u.events.flags .spilled = true
    ∧ (∀ q, s.host.port = .withheld q → u.host.port = .idle ∧ u.host.response = some .fault
        ∧ u.host.confirmTimer = none ∧ flagSet u.events.flags .confirmFail = true)
    ∧ (∀ q c b, s.host.port = .forwarded q c b →
        let condemns : Prop := b = false ∧ s.list.reserved = true ∧ q.kind = .write ∧ c.role = .active
          ∧ c.policy = .confirm
        (condemns → u.host.port = .forwarded q c true ∧ flagSet u.events.flags .confirmFail = true)
        ∧ (¬condemns → u.host = s.host))
    ∧ (∀ k q c b, s.host.port = .held k q c b → u.host = s.host)

/-- A waiting marker takes an entry that the host path does not wait for (R27, R28). The walker, RUNNING with no
block taken, takes the lowest marked block at or above its cursor, clears its mark and goes to its first mirrored
chunk, or finishes a block that has none; with no marked block left it is FINISHED, its cursor where it was (the
model's reading, log 12), and the END marker is asked for, and appended in the same step where an entry is there for
it (log 17), all by this command, never by the answer that ended the block before (log 34) (R125, R126, R128). With
a block taken and an entry free beyond those the host path and a marker wait for, it opens the SYNC record of its
chunk, closing the open WRITE record, and asks for the chunk's first word (R126, R127), but not while a transaction of
the internal requester is still in progress (R151; log 36; it asks at that answer, see `WalkerReadAnswered`). -/
def Obligations.WalkerTakesAndOpens : Prop :=
  (∀ (body : RecordBody) (s : State), s.list.waitingMarker = some body →
    (occupancy s.list + (hostWaits s).toNat < 64 → exec .markerAppend s = .next (finish { s with
      list := { s.list with
        records := s.list.records ++
          [{ seq := s.list.nextSeq, body := body, state := .pending, waiter := false, transmitted := false }]
        nextSeq := s.list.nextSeq + 1#16
        waitingMarker := none } }))
    ∧ (64 ≤ occupancy s.list + (hostWaits s).toNat → exec .markerAppend s = .next s))
  ∧ (∀ s : State, s.walker.run = .running → s.walker.taken = false →
    (∀ b, b ∈ s.dirty → rising s.dirty = true → s.walker.cursor ≤ b →
      (∀ x ∈ s.dirty, s.walker.cursor ≤ x → b ≤ x) →
      (∀ k < 64, (∀ j < k, mirroredChunk s.cfg.regions b j = false) → mirroredChunk s.cfg.regions b k = true →
        exec .walkerTakeBlock s = .next { s with
          dirty := s.dirty.erase b
          walker := { s.walker with cursor := b, taken := true, nextChunk := k } })
      ∧ ((∀ k < 64, mirroredChunk s.cfg.regions b k = false) → exec .walkerTakeBlock s = .next { s with
          dirty := s.dirty.erase b
          walker := { s.walker with cursor := b + 1, taken := false, nextChunk := 0 } }))
    ∧ ((∀ x ∈ s.dirty, x < s.walker.cursor) →
      let walked : State := { s with walker := { s.walker with run := .finished } }
      (occupancy s.list + (hostWaits s).toNat < 64 → exec .walkerTakeBlock s = .next (finish { walked with
        list := { s.list with
          records := s.list.records ++ [{ seq := s.list.nextSeq
                                          body := .endMark
                                          state := .pending
                                          waiter := false
                                          transmitted := false }]
          nextSeq := s.list.nextSeq + 1#16 } }))
      ∧ (64 ≤ occupancy s.list + (hostWaits s).toNat → exec .walkerTakeBlock s = .next (finish { walked with
          list := { s.list with waitingMarker := some .endMark } }))))
  ∧ ∀ (region : BitVec 4) (s : State), s.walker.run = .running → s.walker.taken = true → s.walker.pauseDue = false →
    fillsSync s.list = false → s.walker.cursor < 4096 → s.walker.nextChunk < 64 →
    regionIndexAt s.cfg.regions (4096 * s.walker.cursor + 64 * s.walker.nextChunk) = some region →
    let start : WordAddr := BitVec.ofNat 22 (1024 * s.walker.cursor + 16 * s.walker.nextChunk)
    (occupancy s.list + (hostWaits s).toNat + s.list.waitingMarker.isSome.toNat < 64 →
      exec .walkerOpenSync s = .next (finish { s with
        list := { s.list with
          records := (closeWrite s.list).records ++
            [{ seq := s.list.nextSeq
               body := .data .sync region start []
               state := .opened
               waiter := false
               transmitted := false }]
          nextSeq := s.list.nextSeq + 1#16
          coalesceTimer := none }
        mem := match s.mem.bus with
          | some (.internal _ _) => s.mem
          | _ => { s.mem with waiting := some (.walkerRead start) } }))
    ∧ (64 ≤ occupancy s.list + (hostWaits s).toNat + s.list.waitingMarker.isSome.toNat →
      exec .walkerOpenSync s = .next s)

/-- Memory's answer to a walker read (R127, R128, R130, R153). An OK puts the word, with full mask, at the end of
the open SYNC record and asks for the next; the sixteenth makes the record PENDING, and the walker takes a due pause
or goes on to the block's next mirrored chunk, or past the block, still RUNNING until WALKER_TAKE_BLOCK searches again
(the model's choice, log 34). A FAULT abandons the resync: the open SYNC record
is dropped and the records behind it number one lower, mode NORMAL, the block marked again, outcome FAILED,
RESYNC_END. The walker then has no block taken and keeps its cursor (no block taken is the model's choice, log 11;
that a due pause lets the open record fill to its end is its reading, log 13). The answer of a disowned read is
discarded, and only then does a requester that needs a word ask for it (R151; log 36). -/
def Obligations.WalkerReadAnswered : Prop :=
  (∀ (answer : MemAnswer) (a : WordAddr) (s : State), s.mem.bus = some (.internal (.walkerRead a) true) →
    ∃ t, exec (.walkerReadAnswer answer) s = .next t ∧ discarded s t)
  ∧ ∀ (a : WordAddr) (data : Word) (before after : List Rec) (r : Rec) (region : BitVec 4) (start : WordAddr)
      (words : List DataWord) (s : State),
    s.mem.bus = some (.internal (.walkerRead a) false) → s.walker.run = .running → s.walker.taken = true →
    s.list.records = before ++ r :: after → r.state = .opened → r.body = .data .sync region start words →
    (∀ x ∈ before ++ after, isOpenSync x = false) →
    let c := s.walker.cursor
    let k := s.walker.nextChunk
    let filled (state : RecState) : List Rec := before ++ { r with
      body := .data .sync region start (words ++ [{ mask := fullMask, data := data }])
      state := state } :: after
    let lowered (x : Rec) : Rec := { x with seq := x.seq - 1#16 }
    let pended (x : Rec) : Rec := if isOpenWrite x then { x with state := .pending } else x
    (words.length + 1 < 16 → exec (.walkerReadAnswer (.ok data)) s = .next (finish { s with
      list := { s.list with records := filled .opened }
      mem := { s.mem with
        bus := none
        waiting := some (.walkerRead (BitVec.ofNat 22 (1024 * c + 16 * k + (words.length + 1)))) } }))
    ∧ (words.length + 1 = 16 →
      let closed (w : Walker) : State := { s with
        list := { s.list with records := filled .pending }
        mem := { s.mem with bus := none }
        walker := w }
      (s.walker.pauseDue = true →
        (k + 1 < 64 → exec (.walkerReadAnswer (.ok data)) s = .next (finish (closed
          { s.walker with run := .paused, pauseDue := false, nextChunk := k + 1 })))
        ∧ (64 ≤ k + 1 → exec (.walkerReadAnswer (.ok data)) s = .next (finish (closed
          { s.walker with run := .paused, pauseDue := false, taken := false, cursor := c + 1, nextChunk := 0 }))))
      ∧ (s.walker.pauseDue = false →
        (∀ j < 64, k < j → (∀ i < j, k < i → mirroredChunk s.cfg.regions c i = false) →
          mirroredChunk s.cfg.regions c j = true →
          exec (.walkerReadAnswer (.ok data)) s = .next (finish (closed { s.walker with nextChunk := j })))
        ∧ ((∀ j < 64, k < j → mirroredChunk s.cfg.regions c j = false) →
          exec (.walkerReadAnswer (.ok data)) s = .next (finish (closed
            { s.walker with taken := false, cursor := c + 1, nextChunk := 0 })))))
    ∧ exec (.walkerReadAnswer .fault) s = .next (finish (raise .resyncEnd { s with
        list := { s.list with
          records := (before ++ after.map lowered).map pended
          nextSeq := s.list.nextSeq - 1#16
          coalesceTimer := none }
        stream := { s.stream with mode := .normal }
        dirty := markBlock c s.dirty
        walker := { s.walker with run := .stopped, pauseDue := false, taken := false, outcome := .failed }
        mem := { bus := none, waiting := none, fairness := 0 } }))

/-- The resync block takes the auto-resync request and acts by the stream mode (R136, R165): a resync start in NORMAL
and RESYNC, the status STARTED or REPLACED; in DRAINING before the HANDOVER record has been transmitted the handover
is cancelled with PARTNER_INCONSISTENT, a marked record removed (R94), and a resync start follows; nothing in a
committed handover, in CLOSED and in TRACKING.
What taking an event does (R157, R163, R164, the start of R89): its flag is set and the others stay, the ALERT line
follows, and with route REFLEX a LINK_LOST on a STANDBY starts the promote timer, status WAITING, and a
PARTNER_INCONSISTENT places the auto-resync request, status PENDING; in every other case nothing else happens. -/
def Obligations.AutoResyncTaken : Prop :=
  (∀ s : State, s.walker.autoRequest = true →
    let u : State := { s with walker := { s.walker with autoRequest := false } }
    let noted (a : AutoResync) (x : State) : State := { x with events := { x.events with autoResync := a } }
    (s.stream.mode = .normal → exec .autoResyncTaken s = .next (finish (noted .started (resyncStart u))))
    ∧ (s.stream.mode = .resync → exec .autoResyncTaken s = .next (finish (noted .replaced (resyncStart u))))
    ∧ (s.stream.mode = .closed ∨ s.stream.mode = .tracking →
        exec .autoResyncTaken s = .next (finish (noted .noEffect u)))
    ∧ (s.stream.mode = .draining → s.mgmt.result.detail = .committed →
        exec .autoResyncTaken s = .next (finish (noted .noEffect u)))
    ∧ (s.stream.mode = .draining → s.mgmt.result.detail ≠ .committed →
      let cancelled (l : ReplayList) : State := raise .commandEnd { u with
        stream := { s.stream with mode := .normal }
        list := l
        pair := { s.pair with drainTimer := none }
        mgmt := { s.mgmt with result := { s.mgmt.result with state := .refused, reason := .partnerInconsistent } } }
      ((∀ r ∈ s.list.records, ∀ e, r.body ≠ .handoverMark e) → exec .autoResyncTaken s =
        .next (finish (noted .handoverCancelled (resyncStart (cancelled s.list)))))
      ∧ (∀ r e, s.list.records = [r] → r.body = .handoverMark e → exec .autoResyncTaken s =
        .next (finish (noted .handoverCancelled (resyncStart (cancelled { s.list with
          records := [], nextSeq := s.list.nextSeq - 1#16 })))))))
  ∧ ∀ (e : Event) (s : State), ∃ flags : BitVec 15,
    (∀ x : Event, flagSet flags x = true ↔ x = e ∨ flagSet s.events.flags x = true)
    ∧ (let noted : State := { s with
        events := { s.events with flags := flags, alert := alertCondition flags s.cfg.routes } }
      let reflex : Prop := routeCode s.cfg.routes e = 2
      (reflex → e = .linkLost → s.pair.role = .standby → raise e s = { noted with
        pair := { s.pair with promoteTimer := some (1000 * s.cfg.promoteDelay.toNat) }
        events := { noted.events with autoPromote := .waiting } })
      ∧ (reflex → e = .partnerInconsistent → raise e s = { noted with
          walker := { s.walker with autoRequest := true }
          events := { noted.events with autoResync := .pending } })
      ∧ (¬(reflex ∧ ((e = .linkLost ∧ s.pair.role = .standby) ∨ e = .partnerInconsistent)) → raise e s = noted))

/-! ### The management port -/

/-- Addressing, selection and reads (R169 to R172, R186). A transaction to another target, or while a reset pin is
asserted, has no byte acknowledged and changes nothing else. The addressed unit acknowledges the address byte and,
of a write, the item number byte and every data byte, however many (R170). An item number alone selects the item;
with one, two, three or more than four data bytes the access status becomes SHORT as well. A read takes the item's
value whole: its four bytes, most significant first, then bytes of 0; it reads 0 with UNKNOWN where no item has the
number, and leaves the access status alone where it reads ACCESS_STATUS. The items that exist are those that the
item map lists, and each one has its layout (R175, R201, 11.4): status, counter and region items, EVENT_ROUTES,
LINK_CONTROL and the settings, written here as a sum of their fields at their places, a code being the place of its
value in the list the map gives; EVENT_CLEAR and COMMAND read 0. What a unit shows outside the role that has it
reads 0 (R75, R113, R137), and so does an epoch that is not held or not present (the model's reading, log 14). The
region digest is the CRC of the span and mode items of entries 0 to 15 in turn, each most significant byte first
(R8). -/
def Obligations.TransactionsAddressSelectAndRead : Prop :=
  (∀ (target : BitVec 7) (d : DataBytes) (n : BitVec 4) (item : Byte) (data : List Byte) (count : Nat) (s : State),
    s.phase ≠ .running ∨ s.wrst = true ∨ target.toNat ≠ 92 + s.mgmt.strapAddr.toNat →
    ∀ c ∈ [Instr.setActive target, .setStandby target, .setNone target, .handover target, .resync target,
        .restart target, .reload target, .clearCounters target, .eventClear target d, .eventRoutes target d,
        .linkControl target d, .regionSpan target n d, .regionMode target n d, .itemWrite target item d,
        .itemSelect target item, .shortWrite target item data, .itemRead target count],
      exec c s = .next { s with mgmt := { s.mgmt with acked := 0 } })
  ∧ (∀ (target : BitVec 7) (item : Byte) (data : List Byte) (s : State), acknowledges target s = true →
    exec (.itemSelect target item) s = .next { s with mgmt := { s.mgmt with acked := 2, selected := item } }
    ∧ (data.length ≠ 0 → data.length ≠ 4 → exec (.shortWrite target item data) s = .next { s with
        mgmt := { s.mgmt with acked := 2 + data.length, selected := item, access := .short } }))
  ∧ (∀ (target : BitVec 7) (count : Nat) (s : State), acknowledges target s = true → 1 ≤ count →
    ∃ bytes : List Byte, bytes.length = count
      ∧ (∀ i < count, bytes[i]? = some
          (((wordBytes ((itemValue s.mgmt.selected s).getD 0#32))[i]?).getD 0#8))
      ∧ exec (.itemRead target count) s = .next { s with mgmt := { s.mgmt with
          acked := 1
          readBytes := bytes
          access := if s.mgmt.selected = 0x22#8 then s.mgmt.access
            else if itemValue s.mgmt.selected s = none then .unknown else .ok } })
  ∧ (∀ (item : Byte) (s : State), (itemValue item s = none ↔ itemKind item = none)
      ∧ (itemKind item = none ↔ ¬(item.toNat ≤ 0x01 ∨ (0x10 ≤ item.toNat ∧ item.toNat ≤ 0x23)
          ∨ (0x28 ≤ item.toNat ∧ item.toNat ≤ 0x2C) ∨ (0x30 ≤ item.toNat ∧ item.toNat ≤ 0x32)
          ∨ item.toNat = 0x38 ∨ (0x40 ≤ item.toNat ∧ item.toNat ≤ 0x4C) ∨ item.toNat = 0x50 ∨ item.toNat = 0x51
          ∨ (0x60 ≤ item.toNat ∧ item.toNat ≤ 0x7F))))
  ∧ ∀ s : State, listWf s.list = true → s.dirty.length ≤ 4096 → s.walker.cursor ≤ 4096 →
    let reads (item : Byte) (value : Nat) : Prop := (itemValue item s).map BitVec.toNat = some value
    let active (n : Nat) : Nat := if s.pair.role = .active then n else 0
    let standby (n : Nat) : Nat := if s.pair.role = .standby then n else 0
    let epochOf (e : Option Half) : Nat := (e.getD 0#16).toNat
    let p := s.pair.partner
    let w := s.walker
    let r := s.mgmt.result
    let roles : List Role := [.none, .active, .standby]
    let judgements : List Consistency := [.inconsistent, .resyncing, .consistent]
    let commands : List (Option Command) := [none, some .setActive, some .setStandby, some .setNone, some .handover,
      some .resync, some .restart, some .reload, some .clearCounters]
    reads 0x00#8 0x2D710781 ∧ reads 0x01#8 (s.mgmt.strapAddr.toNat + 16 * s.mgmt.strapLoadEn.toNat)
    ∧ (∀ k, roles[k]? = some s.pair.role → reads 0x10#8 k)
    ∧ (∀ k, [LinkState.off, .down, .handshake, .up, .conflict, .mismatch][k]? = some s.pair.link → reads 0x11#8 k)
    ∧ (∀ k, [StreamMode.closed, .normal, .resync, .tracking, .draining][k]? = some s.stream.mode →
        reads 0x12#8 (active (k + 16 * s.stream.isOpen.toNat + 256 * s.stream.basisValid.toNat)
          + 65536 * s.stream.epoch.toNat))
    ∧ (∀ k, judgements[k]? = some s.apply.consistency → reads 0x13#8 (standby k))
    ∧ reads 0x14#8 (standby (epochOf s.apply.heldEpoch + 65536 * s.apply.heldEpoch.isSome.toNat))
    ∧ reads 0x15#8 (standby s.apply.expected.toNat)
    ∧ reads 0x16#8 (s.list.records.length + s.list.reserved.toNat
        + 256 * s.list.records.countP fun x => x.state == .sent)
    ∧ reads 0x17#8 (s.list.nextSeq.toNat + 65536 * (oldestSeq s.list).toNat)
    ∧ reads 0x18#8 (active s.dirty.length) ∧ reads 0x19#8 (w.cursor + 65536 * w.taken.toNat)
    ∧ (∀ k j i, [ResyncOutcome.none, .running, .complete, .failed, .interrupted][k]? = some w.outcome →
        [Scope.full, .partialScope][j]? = some w.scope →
        [RunState.stopped, .running, .paused, .finished][i]? = some w.run →
        reads 0x1A#8 (k + 16 * j + 256 * active i + 65536 * w.epoch.toNat))
    ∧ (∀ k j, roles[k]? = some p.role → judgements[j]? = some p.consistency →
        reads 0x1B#8 (p.heard.toNat + 16 * k + 256 * j + 4096 * p.streamOpen.toNat + 8192 * p.epoch.isSome.toNat
          + 65536 * epochOf p.epoch))
    ∧ reads 0x1C#8 (p.digest.toNat + 65536 * p.seq.toNat) ∧ reads 0x1D#8 (regionDigest s.cfg.regions).toNat
    ∧ reads 0x1E#8 (4 * s.host.lastGuardAddr.toNat)
    ∧ (∀ k, [FaultCause.none, .regionCheck, .memory][k]? = some s.apply.lastFault.cause →
        reads 0x1F#8 (k + 65536 * s.apply.lastFault.seq.toNat))
    ∧ reads 0x23#8 (4 * s.apply.lastFault.addr.toNat)
    ∧ (∀ k, [LoadState.loading, .loaded, .absent, .failed, .skipped][k]? = some s.loader.state →
        reads 0x20#8 (k + 256 * s.loader.failIndex.toNat))
    ∧ (∀ k j, [AutoPromote.none, .waiting, .promoted, .declined, .cancelled][k]? = some s.events.autoPromote →
        [AutoResync.none, .pending, .started, .replaced, .handoverCancelled, .noEffect][j]? =
          some s.events.autoResync → reads 0x21#8 (k + 256 * j))
    ∧ (∀ k, [Access.ok, .unknown, .readOnly, .short, .locked, .badValue, .loading][k]? = some s.mgmt.access →
        reads 0x22#8 k)
    ∧ reads 0x28#8 s.rx.charErrors.toNat ∧ reads 0x29#8 s.rx.badFrames.toNat ∧ reads 0x2A#8 s.rx.rxDrops.toNat
    ∧ reads 0x2B#8 s.list.retransmits.toNat ∧ reads 0x2C#8 s.list.holds.toNat ∧ reads 0x30#8 s.events.flags.toNat
    ∧ reads 0x31#8 0 ∧ reads 0x32#8 s.cfg.routes.toNat
    ∧ (∀ k, [LinkRate.r12, .r25, .r50][k]? = some s.cfg.linkRate →
        reads 0x38#8 (s.cfg.linkEnable.toNat + 16 * k))
    ∧ reads 0x40#8 s.cfg.coalesceLimit.toNat ∧ reads 0x41#8 s.cfg.coalesceWindow.toNat
    ∧ reads 0x42#8 s.cfg.window.toNat ∧ reads 0x43#8 s.cfg.retryTimeout.toNat ∧ reads 0x44#8 s.cfg.retryLimit.toNat
    ∧ reads 0x45#8 s.cfg.holdTimeout.toNat ∧ reads 0x46#8 s.cfg.helloInterval.toNat
    ∧ reads 0x47#8 s.cfg.lossTimeout.toNat ∧ reads 0x48#8 s.cfg.drainTimeout.toNat
    ∧ reads 0x49#8 s.cfg.promoteDelay.toNat ∧ (∀ k, roles[k]? = some s.cfg.startRole → reads 0x4A#8 k)
    ∧ reads 0x4B#8 s.cfg.pulseInterval.toNat ∧ reads 0x4C#8 s.cfg.confirmTimeout.toNat ∧ reads 0x50#8 0
    ∧ (∀ c st re d b, commands[c]? = some r.command → commands[b]? = some r.busyRefusal →
        [CmdState.idle, .inProgress, .done, .refused][st]? = some r.state →
        [Reason.none, .busy, .notActive, .linkNotUp, .partnerNotReady, .streamNotNormal, .partnerActive,
          .drainTimeout, .linkLost, .partnerInconsistent, .notNone][re]? = some r.reason →
        ([Detail.none, .drain, .marked, .committed, .confirmed, .unconfirmed][d]? = some r.detail
          ∨ [Detail.none, .loaded, .absent, .failed][d]? = some r.detail) →
        reads 0x51#8 (c + 16 * st + 256 * re + 4096 * d + 65536 * b))
    ∧ (let item (n : Nat) : Word := (itemValue (BitVec.ofNat 8 n) s).getD 0#32
      regionDigest s.cfg.regions = crc16 ((List.range 16).flatMap fun n =>
        wordBytes (item (0x60 + 2 * n)) ++ wordBytes (item (0x61 + 2 * n))))
    ∧ (∀ v : Word, (wordBytes v).map BitVec.toNat =
        [v.toNat / 2 ^ 24, v.toNat / 2 ^ 16 % 256, v.toNat / 2 ^ 8 % 256, v.toNat % 256])
    ∧ ∀ n : BitVec 4,
      let e := regionAt s.cfg.regions n
      reads (BitVec.ofNat 8 (0x60 + 2 * n.toNat)) (e.countLess1.toNat + 65536 * e.base.toNat)
      ∧ ∀ k j, [Policy.pass, .stream, .confirm][k]? = some e.policy → [Guard.opened, .guarded][j]? = some e.guard →
        reads (BitVec.ofNat 8 (0x61 + 2 * n.toNat)) (e.enabled.toNat + 16 * k + 256 * j)

/-- The order of a write's checks (R173): unknown item, load in progress, read-only item, then the item's own; a
write that fails one selects the item, sets the access status and does nothing else. A COMMAND value that names no
command is BAD_VALUE and is not taken by the slot; a command written while another is IN_PROGRESS is refused BUSY,
only noted in the busy refusal part, with COMMAND_END, and a role command stops the promote timer (R89, R177). Each
write that the table gives a row of its own is the four-byte write of its item (R170, 11.4), a command that of its
code. -/
def Obligations.WriteChecksInOrder : Prop :=
  ∀ (target : BitVec 7) (s : State), acknowledges target s = true →
    let told (item : Byte) (a : Access) : MgmtPort := { s.mgmt with acked := 6, selected := item, access := a }
    (∀ (item : Byte) (d : DataBytes),
      (itemKind item = none → exec (.itemWrite target item d) s = .next { s with mgmt := told item .unknown })
      ∧ (itemKind item ≠ none → s.loader.state = .loading →
          exec (.itemWrite target item d) s = .next { s with mgmt := told item .loading })
      ∧ (itemKind item = some .readOnly → s.loader.state ≠ .loading →
          exec (.itemWrite target item d) s = .next { s with mgmt := told item .readOnly }))
    ∧ (∀ d : DataBytes, s.loader.state ≠ .loading →
        let v : Word := d.first ++ d.second ++ d.third ++ d.fourth
        v = 0#32 ∨ 8 < v.toNat →
          exec (.itemWrite target 0x50#8 d) s = .next { s with mgmt := told 0x50#8 .badValue })
    ∧ (∀ d : DataBytes, exec (.eventClear target d) s = exec (.itemWrite target 0x31#8 d) s
        ∧ exec (.eventRoutes target d) s = exec (.itemWrite target 0x32#8 d) s
        ∧ exec (.linkControl target d) s = exec (.itemWrite target 0x38#8 d) s
        ∧ ∀ n : BitVec 4,
          exec (.regionSpan target n d) s = exec (.itemWrite target (BitVec.ofNat 8 (0x60 + 2 * n.toNat)) d) s
          ∧ exec (.regionMode target n d) s = exec (.itemWrite target (BitVec.ofNat 8 (0x61 + 2 * n.toNat)) d) s)
    ∧ (∀ p ∈ [(Instr.setActive target, 1#8), (.setStandby target, 2#8), (.setNone target, 3#8),
        (.handover target, 4#8), (.resync target, 5#8), (.restart target, 6#8), (.reload target, 7#8),
        (.clearCounters target, 8#8)],
      exec p.1 s = exec (.itemWrite target 0x50#8 { first := 0#8, second := 0#8, third := 0#8, fourth := p.2 }) s)
    ∧ ∀ p ∈ [(Instr.setActive target, Command.setActive), (.setStandby target, .setStandby),
        (.setNone target, .setNone), (.handover target, .handover), (.resync target, .resync),
        (.restart target, .restart), (.reload target, .reload), (.clearCounters target, .clearCounters)],
      (s.loader.state = .loading → exec p.1 s = .next { s with mgmt := told 0x50#8 .loading })
      ∧ (s.loader.state ≠ .loading → s.mgmt.result.state = .inProgress →
        let stopped : State :=
          if p.2 = .setActive ∨ p.2 = .setStandby ∨ p.2 = .setNone then { s with
            pair := { s.pair with promoteTimer := none }
            events := { s.events with
              autoPromote := if s.pair.promoteTimer.isSome then .cancelled else s.events.autoPromote } }
          else s
        exec p.1 s = .next (raise .commandEnd { stopped with mgmt := { told 0x50#8 .ok with
          result := { s.mgmt.result with busyRefusal := some p.2 } } }))

/-- EVENT_CLEAR (R158), its value read from the four data bytes, the first most significant (R170): a valid value
clears together the flags whose positions hold 1, the others stay, the access status becomes OK and the ALERT line
follows; a value with a 1 beyond the fifteen positions is BAD_VALUE, and while a load runs the write is LOADING,
with no flag cleared. Nothing else changes. The item reads as 0. -/
def Obligations.EventsClearedTogether : Prop :=
  ∀ (target : BitVec 7) (d : DataBytes) (s : State), acknowledges target s = true →
    let v : Word := d.first ++ d.second ++ d.third ++ d.fourth
    let told (a : Access) : MgmtPort := { s.mgmt with acked := 6, selected := 0x31#8, access := a }
    (s.loader.state = .loading → exec (.eventClear target d) s = .next { s with mgmt := told .loading })
    ∧ (s.loader.state ≠ .loading →
      (v.toNat < 2 ^ 15 → ∀ flags : BitVec 15,
        (∀ i < 15, flags.getLsbD i = (s.events.flags.getLsbD i && !v.getLsbD i)) →
        exec (.eventClear target d) s = .next { s with
          events := { s.events with flags := flags, alert := alertCondition flags s.cfg.routes }
          mgmt := told .ok })
      ∧ (2 ^ 15 ≤ v.toNat → exec (.eventClear target d) s = .next { s with mgmt := told .badValue }))
    ∧ ∀ u : State, itemValue 0x31#8 u = some 0#32

/-- EVENT_ROUTES (R160, R161): accepted whole, the ALERT line following at once, when bits 31 and 30 are 0 and every
event's code is OFF or ALERT, or REFLEX for LINK_LOST or PARTNER_INCONSISTENT; BAD_VALUE otherwise.
LINK_CONTROL (R51, R70): a value that names no rate or has a 1 elsewhere is BAD_VALUE, a rate change while the link is
enabled is LOCKED, and else the fields take their values: an enable starts hunting and enters DOWN, a disable cuts off
the frame on the line, withdraws all requests, empties the receiver and enters OFF. A value is the one its four data
bytes form, the first most significant (R170). Event n of 11.5 has bit n − 1 of the flags and bits 2n − 1 to 2n − 2 of
the routes, and the ALERT line's condition is a set flag whose route is ALERT, code 1 (R161). -/
def Obligations.RoutesAndLinkControlWritten : Prop :=
  (∀ (target : BitVec 7) (d : DataBytes) (s : State), acknowledges target s = true → s.loader.state ≠ .loading →
    let v : Word := d.first ++ d.second ++ d.third ++ d.fourth
    let routes : BitVec 30 := v.extractLsb' 0 30
    let told (a : Access) : MgmtPort := { s.mgmt with acked := 6, selected := 0x32#8, access := a }
    let valid : Prop := v.toNat < 2 ^ 30 ∧ ∀ e : Event, routeCode routes e ≤ 1
      ∨ (routeCode routes e = 2 ∧ (e = .linkLost ∨ e = .partnerInconsistent))
    (valid → exec (.eventRoutes target d) s = .next { s with
      cfg := { s.cfg with routes := routes }
      events := { s.events with alert := alertCondition s.events.flags routes }
      mgmt := told .ok })
    ∧ (¬valid → alertExact s = true → exec (.eventRoutes target d) s = .next { s with mgmt := told .badValue }))
  ∧ (∀ (target : BitVec 7) (d : DataBytes) (s : State), acknowledges target s = true → s.loader.state ≠ .loading →
    let v : Word := d.first ++ d.second ++ d.third ++ d.fourth
    let told (a : Access) : MgmtPort := { s.mgmt with acked := 6, selected := 0x38#8, access := a }
    let on := v.getLsbD 0
    let valid : Prop := v &&& 0xFFFFFFCE#32 = 0#32 ∧ v &&& 0x30#32 ≠ 0x30#32
    (¬valid → exec (.linkControl target d) s = .next (finish { s with mgmt := told .badValue }))
    ∧ ∀ rate : LinkRate, valid → v &&& 0x30#32 = BitVec.ofNat 32 (16 * rateCode rate) →
      (s.cfg.linkEnable = true → rate ≠ s.cfg.linkRate →
        exec (.linkControl target d) s = .next (finish { s with mgmt := told .locked }))
      ∧ (s.cfg.linkEnable = false ∨ rate = s.cfg.linkRate →
        let set : State := { s with cfg := { s.cfg with linkEnable := on, linkRate := rate }, mgmt := told .ok }
        (on = s.cfg.linkEnable → exec (.linkControl target d) s = .next (finish set))
        ∧ (s.cfg.linkEnable = false → on = true → s.pair.link = .off →
          exec (.linkControl target d) s = .next (finish { set with
            rx := { s.rx with receiver := .hunting, assembler := .hunt, buffer := [] }
            pair := { s.pair with
              link := .down, helloTimer := some s.cfg.helloInterval.toNat, lossTimer := none }
            tx := { s.tx with helloDue := true } }))
        ∧ (s.cfg.linkEnable = true → on = false →
          ∃ t, exec (.linkControl target d) s = .next t ∧ t.cfg = set.cfg ∧ t.mgmt.access = .ok
            ∧ t.rx = { s.rx with receiver := .notWatching, assembler := .hunt, buffer := [] }
            ∧ t.tx = { serializer := (match s.tx.serializer with | .sending _ => .aborting | x => x)
                       helloDue := false, ackRequest := .none, pulseDue := false, pulseTimer := none }
            ∧ t.pair.link = .off ∧ t.pair.partner = PartnerView.cleared ∧ t.pair.helloTimer = none
            ∧ t.pair.lossTimer = none)))
  ∧ ∀ (flags : BitVec 15) (routes : BitVec 30),
    (∀ (i : Nat) (e : Event),
      [Event.linkUp, .linkLost, .roleConflict, .digestMismatch, .linkError, .confirmFail, .holdTimeout, .spilled,
        .resyncEnd, .partnerInconsistent, .guardHit, .applyFault, .roleChanged, .loadEnd, .commandEnd][i]? = some e →
      flagSet flags e = flags.getLsbD i ∧ routeCode routes e = routes.toNat / 4 ^ i % 4)
    ∧ (alertCondition flags routes = true ↔ ∃ e : Event, flagSet flags e = true ∧ routeCode routes e = 1)

/-- The region items take new values only in role NONE and are LOCKED otherwise (R7). A span item takes base and
length together when granule number plus granule count is at most 65,536 (R5); a mode item takes enabled, policy and
guard together from a value that names a policy and has no 1 in a zero position (R6); else BAD_VALUE. Each setting
takes a value within its range and is BAD_VALUE beyond, WINDOW only in role NONE (R22, R32, R48, R66, R95, R150,
R174). An accepted write changes its own item alone. A value is the one its four data bytes form, the first most
significant (R170). -/
def Obligations.SettingsWritten : Prop :=
  ∀ (target : BitVec 7) (s : State), acknowledges target s = true → s.loader.state ≠ .loading →
    let told (item : Byte) (a : Access) : MgmtPort := { s.mgmt with acked := 6, selected := item, access := a }
    (∀ (n : BitVec 4) (d : DataBytes),
      let v : Word := d.first ++ d.second ++ d.third ++ d.fourth
      let span : Byte := BitVec.ofNat 8 (0x60 + 2 * n.toNat)
      let mode : Byte := BitVec.ofNat 8 (0x61 + 2 * n.toNat)
      let old := regionAt s.cfg.regions n
      let replaced (c : Instr) (item : Byte) (e : RegionEntry) : Prop :=
        ∃ table : Vector RegionEntry 16, (∀ m, regionAt table m = if m = n then e else regionAt s.cfg.regions m)
          ∧ exec c s = .next { s with cfg := { s.cfg with regions := table }, mgmt := told item .ok }
      (s.pair.role ≠ .none → exec (.regionSpan target n d) s = .next { s with mgmt := told span .locked }
        ∧ exec (.regionMode target n d) s = .next { s with mgmt := told mode .locked })
      ∧ (s.pair.role = .none →
        (∀ base less : BitVec 16, v = base ++ less →
          (base.toNat + (less.toNat + 1) ≤ 65536 →
            replaced (.regionSpan target n d) span { old with base := base, countLess1 := less })
          ∧ (65536 < base.toNat + (less.toNat + 1) →
            exec (.regionSpan target n d) s = .next { s with mgmt := told span .badValue }))
        ∧ (v &&& 0xFFFFFECE#32 ≠ 0#32 ∨ v &&& 0x30#32 = 0x30#32 →
          exec (.regionMode target n d) s = .next { s with mgmt := told mode .badValue })
        ∧ ∀ policy : Policy, v &&& 0xFFFFFECE#32 = 0#32 →
          v &&& 0x30#32 = BitVec.ofNat 32 (16 * policyCode policy) →
          replaced (.regionMode target n d) mode { old with
            enabled := v.getLsbD 0, policy := policy, guard := if v.getLsbD 8 then .guarded else .opened }))
    ∧ ∀ row ∈ [(0x40#8, 1, 16), (0x41#8, 1, 255), (0x42#8, 1, 16), (0x43#8, 20, 65535), (0x44#8, 1, 15),
        (0x45#8, 10, 65535), (0x46#8, 100, 10000), (0x47#8, 100, 65535), (0x48#8, 1, 255), (0x49#8, 0, 255),
        (0x4A#8, 0, 2), (0x4B#8, 10, 5000), (0x4C#8, 10, 65535)], ∀ d : DataBytes,
      let v : Word := d.first ++ d.second ++ d.third ++ d.fourth
      (row.1 = 0x42#8 → s.pair.role ≠ .none →
        exec (.itemWrite target row.1 d) s = .next { s with mgmt := told row.1 .locked })
      ∧ (row.1 ≠ 0x42#8 ∨ s.pair.role = .none →
        (v.toNat < row.2.1 ∨ row.2.2 < v.toNat →
          exec (.itemWrite target row.1 d) s = .next { s with mgmt := told row.1 .badValue })
        ∧ (row.2.1 ≤ v.toNat → v.toNat ≤ row.2.2 →
          ∃ cfg, exec (.itemWrite target row.1 d) s = .next { s with cfg := cfg, mgmt := told row.1 .ok }
            ∧ settingValue row.1.toNat cfg = some v ∧ cfg.regions = s.cfg.regions
            ∧ ∀ i, i ≠ row.1.toNat → settingValue i cfg = settingValue i s.cfg))

/-! ### The commands of the slot -/

/-- SET_ACTIVE, SET_STANDBY and SET_NONE (R86 to R89, R177 to R179). Each stops the promote timer and ends at once,
the result set before COMMAND_END: with the change of role, and for a STANDBY that becomes ACTIVE its held epoch as
epoch counter; with no change in the role it names; SET_ACTIVE is refused on a STANDBY whose link is UP to an ACTIVE
partner. -/
def Obligations.RoleCommands : Prop :=
  ∀ (target : BitVec 7) (s : State), acknowledges target s = true → s.loader.state ≠ .loading →
    s.mgmt.result.state ≠ .inProgress →
    let u : State := { s with
      pair := { s.pair with promoteTimer := none }
      events := { s.events with
        autoPromote := if s.pair.promoteTimer.isSome then .cancelled else s.events.autoPromote }
      mgmt := { s.mgmt with acked := 6, selected := 0x50#8, access := .ok } }
    let ended (c : Command) (state : CmdState) (reason : Reason) (x : State) : State :=
      raise .commandEnd { x with mgmt := { x.mgmt with result :=
        { command := some c, state := state, reason := reason, detail := .none, busyRefusal := none } } }
    (s.pair.role = .none → exec (.setActive target) s =
        .next (finish (ended .setActive .done .none (changeRole .active u))))
    ∧ (s.pair.role = .standby →
      (s.pair.link = .up → s.pair.partner.role = .active →
        exec (.setActive target) s = .next (ended .setActive .refused .partnerActive u))
      ∧ (s.pair.link ≠ .up ∨ s.pair.partner.role ≠ .active → exec (.setActive target) s =
          .next (finish (ended .setActive .done .none (changeRole .active { u with
            stream := { s.stream with epoch := s.apply.heldEpoch.getD s.stream.epoch } })))))
    ∧ (s.pair.role = .active → exec (.setActive target) s = .next (ended .setActive .done .none u))
    ∧ (s.pair.role ≠ .standby → exec (.setStandby target) s =
        .next (finish (ended .setStandby .done .none (changeRole .standby u))))
    ∧ (s.pair.role = .standby → exec (.setStandby target) s = .next (ended .setStandby .done .none u))
    ∧ (s.pair.role ≠ .none → exec (.setNone target) s =
        .next (finish (ended .setNone .done .none (changeRole .none u))))
    ∧ (s.pair.role = .none → exec (.setNone target) s = .next (ended .setNone .done .none u))

/-- HANDOVER, RESYNC and RELOAD (R90, R119, R182). HANDOVER and RESYNC are refused with their first failing reason,
which changes nothing but the result; the mirrored write forwarded without a reservation that refuses a HANDOVER is
one of any classification role, by the policy kept with it (R3; log 35); an accepted HANDOVER is IN_PROGRESS in the
drain phase, the open WRITE record closed, the mode DRAINING, the drain timer started, a LIST hold passed under the
drain; an accepted RESYNC is a resync start, DONE at once. RELOAD in role NONE makes the load state LOADING and
begins to read the image, and is refused with NOT_NONE in another role. -/
def Obligations.HandoverResyncReloadJudged : Prop :=
  ∀ (target : BitVec 7) (s : State), acknowledges target s = true → s.loader.state ≠ .loading →
    s.mgmt.result.state ≠ .inProgress →
    let u : State := { s with mgmt := { s.mgmt with acked := 6, selected := 0x50#8, access := .ok } }
    let result (c : Command) (state : CmdState) (reason : Reason) (detail : Detail) (x : State) : State :=
      { x with mgmt := { x.mgmt with result :=
        { command := some c, state := state, reason := reason, detail := detail, busyRefusal := none } } }
    let refused (c : Command) (reason : Reason) : State := raise .commandEnd (result c .refused reason .none u)
    let unreserved : Prop := ∃ q c b, s.host.port = .forwarded q c b ∧ q.kind = .write
      ∧ c.policy ≠ .pass ∧ s.list.reserved = false
    (s.pair.role ≠ .active → exec (.handover target) s = .next (refused .handover .notActive)
      ∧ exec (.resync target) s = .next (refused .resync .notActive))
    ∧ (s.pair.role = .active →
      (s.pair.link ≠ .up → exec (.handover target) s = .next (refused .handover .linkNotUp)
        ∧ exec (.resync target) s = .next (refused .resync .linkNotUp))
      ∧ (s.pair.link = .up →
        (s.pair.partner.role ≠ .standby →
          exec (.resync target) s = .next (refused .resync .partnerNotReady))
        ∧ (s.pair.partner.role ≠ .standby ∨ s.pair.partner.consistency ≠ .consistent →
          exec (.handover target) s = .next (refused .handover .partnerNotReady))
        ∧ (s.pair.partner.role = .standby →
          (s.stream.mode ≠ .normal → exec (.resync target) s = .next (refused .resync .streamNotNormal))
          ∧ (s.stream.mode = .normal → exec (.resync target) s =
              .next (finish (raise .commandEnd (result .resync .done .none .none (resyncStart u))))))
        ∧ (s.pair.partner.role = .standby → s.pair.partner.consistency = .consistent →
          (s.stream.mode ≠ .normal ∨ unreserved →
            exec (.handover target) s = .next (refused .handover .streamNotNormal))
          ∧ (s.stream.mode = .normal → ¬unreserved →
            exec (.handover target) s = .next (finish (result .handover .inProgress .none .drain { u with
              stream := { s.stream with mode := .draining }
              pair := { s.pair with drainTimer := some (1000 * s.cfg.drainTimeout.toNat) }
              list := { s.list with
                records := s.list.records.map (fun r =>
                  if r.state = .opened ∧ isWrite r.body then { r with state := .pending } else r)
                coalesceTimer := none
                holdTimer := none }
              host := { s.host with port := match s.host.port with
                | .held .list q c b => .held .drain q c b
                | p => p } }))))))
    ∧ (s.pair.role ≠ .none → exec (.reload target) s = .next (refused .reload .notNone))
    ∧ (s.pair.role = .none → exec (.reload target) s = .next { result .reload .inProgress .none .none u with
        loader := { state := .loading, failIndex := 0#8, reading := true
                    portOut := bitsOfBytes [0x03#8, 0#8, 0#8] } })

/-- CLEAR_COUNTERS (R180): in any role it sets the five counters to 0 together, the result is DONE and COMMAND_END is
raised, and nothing else changes; while a command is IN_PROGRESS it is refused, the counters as they were. A counter
at 0 counts again, and one at 65535 stays there until it is cleared. -/
def Obligations.CountersClearedTogether : Prop :=
  (∀ (target : BitVec 7) (s : State), acknowledges target s = true → s.loader.state ≠ .loading →
    let told : MgmtPort := { s.mgmt with acked := 6, selected := 0x50#8, access := .ok }
    (s.mgmt.result.state ≠ .inProgress → exec (.clearCounters target) s = .next (raise .commandEnd { s with
      rx := { s.rx with charErrors := 0#16, badFrames := 0#16, rxDrops := 0#16 }
      list := { s.list with retransmits := 0#16, holds := 0#16 }
      mgmt := { told with result :=
        { command := some .clearCounters, state := .done, reason := .none, detail := .none
          busyRefusal := none } } }))
    ∧ (s.mgmt.result.state = .inProgress → exec (.clearCounters target) s = .next (raise .commandEnd { s with
        mgmt := { told with result := { s.mgmt.result with busyRefusal := some .clearCounters } } })))
  ∧ countUp 0#16 = 1#16 ∧ countUp 65535#16 = 65535#16 ∧ ∀ c : Half, c ≠ 65535#16 → countUp c = c + 1#16

/-! ### What every step keeps -/

/-- The ALERT line is asserted exactly when at least one set event flag has the route ALERT (R161): every step of
every command keeps it so, whatever it does to flags and routes. -/
def Obligations.AlertExactKept : Prop :=
  ∀ (c : Instr) (s t : State), alertExact s = true → exec c s = .next t → alertExact t = true

/-- Every step of every command keeps the unit sound (`Safety.sound`): the replay list's occupancy, numbering and
order (R23, R25, R26, R30), the SENT count within the window (R30), what a unit gives up with its role (R67, R73,
R75, R98, R115, R137), the dirty map's form, the receiver's and the arbiter's bounds, and what holds of a loading, a
held, a draining and a walking unit (R194, R144, R90, R124). -/
def Obligations.SoundKept : Prop :=
  ∀ (c : Instr) (s t : State), sound s = true → exec c s = .next t → sound t = true

/-- No step leaves a free serializer beside a frame that the scheduler could start (R64): an end of a frame, a
request, an append and a change of state each start the next frame in the same step. -/
def Obligations.SettledKept : Prop :=
  ∀ (c : Instr) (s t : State), settled s = true → exec c s = .next t → settled t = true

/-- The invariants that every step keeps hold of `State.reset`, the unit held in cold reset (R168, R185; the model's
choice of the state to begin with, log 3). -/
def Obligations.InvariantsHoldAtReset : Prop :=
  alertExact State.reset = true ∧ sound State.reset = true ∧ settled State.reset = true
end

