-- ==== Sys2Proof/Laws/State.lean ====
section
/-! SUPPORT. What each named update of the state leaves in each field: one lemma per field per update, true by
`rfl`, so that no proof unfolds a record update. -/

namespace Sys2Proof.Machine

variable (s : State)

/-! ### updateAlert -/

@[simp] theorem updateAlert_pending : (updateAlert s).pending = s.pending := rfl
@[simp] theorem updateAlert_phase : (updateAlert s).phase = s.phase := rfl
@[simp] theorem updateAlert_wrst : (updateAlert s).wrst = s.wrst := rfl
@[simp] theorem updateAlert_cfg : (updateAlert s).cfg = s.cfg := rfl
@[simp] theorem updateAlert_loader : (updateAlert s).loader = s.loader := rfl
@[simp] theorem updateAlert_host : (updateAlert s).host = s.host := rfl
@[simp] theorem updateAlert_mem : (updateAlert s).mem = s.mem := rfl
@[simp] theorem updateAlert_list : (updateAlert s).list = s.list := rfl
@[simp] theorem updateAlert_rx : (updateAlert s).rx = s.rx := rfl
@[simp] theorem updateAlert_tx : (updateAlert s).tx = s.tx := rfl
@[simp] theorem updateAlert_pair : (updateAlert s).pair = s.pair := rfl
@[simp] theorem updateAlert_stream : (updateAlert s).stream = s.stream := rfl
@[simp] theorem updateAlert_apply : (updateAlert s).apply = s.apply := rfl
@[simp] theorem updateAlert_dirty : (updateAlert s).dirty = s.dirty := rfl
@[simp] theorem updateAlert_walker : (updateAlert s).walker = s.walker := rfl
@[simp] theorem updateAlert_events :
    (updateAlert s).events =
      { s.events with alert := alertCondition s.events.flags s.cfg.routes } := rfl
@[simp] theorem updateAlert_mgmt : (updateAlert s).mgmt = s.mgmt := rfl

/-! ### respond -/

@[simp] theorem respond_pending (r : HostResponse) : (respond r s).pending = s.pending := rfl
@[simp] theorem respond_phase (r : HostResponse) : (respond r s).phase = s.phase := rfl
@[simp] theorem respond_wrst (r : HostResponse) : (respond r s).wrst = s.wrst := rfl
@[simp] theorem respond_cfg (r : HostResponse) : (respond r s).cfg = s.cfg := rfl
@[simp] theorem respond_loader (r : HostResponse) : (respond r s).loader = s.loader := rfl
@[simp] theorem respond_host (r : HostResponse) :
    (respond r s).host =
      { s.host with port := .idle, response := some r } := rfl
@[simp] theorem respond_mem (r : HostResponse) : (respond r s).mem = s.mem := rfl
@[simp] theorem respond_list (r : HostResponse) : (respond r s).list = s.list := rfl
@[simp] theorem respond_rx (r : HostResponse) : (respond r s).rx = s.rx := rfl
@[simp] theorem respond_tx (r : HostResponse) : (respond r s).tx = s.tx := rfl
@[simp] theorem respond_pair (r : HostResponse) : (respond r s).pair = s.pair := rfl
@[simp] theorem respond_stream (r : HostResponse) : (respond r s).stream = s.stream := rfl
@[simp] theorem respond_apply (r : HostResponse) : (respond r s).apply = s.apply := rfl
@[simp] theorem respond_dirty (r : HostResponse) : (respond r s).dirty = s.dirty := rfl
@[simp] theorem respond_walker (r : HostResponse) : (respond r s).walker = s.walker := rfl
@[simp] theorem respond_events (r : HostResponse) : (respond r s).events = s.events := rfl
@[simp] theorem respond_mgmt (r : HostResponse) : (respond r s).mgmt = s.mgmt := rfl

/-! ### forward -/

@[simp] theorem forward_pending (q : HostReq) (c : HostClass) : (forward q c s).pending = s.pending := rfl
@[simp] theorem forward_phase (q : HostReq) (c : HostClass) : (forward q c s).phase = s.phase := rfl
@[simp] theorem forward_wrst (q : HostReq) (c : HostClass) : (forward q c s).wrst = s.wrst := rfl
@[simp] theorem forward_cfg (q : HostReq) (c : HostClass) : (forward q c s).cfg = s.cfg := rfl
@[simp] theorem forward_loader (q : HostReq) (c : HostClass) : (forward q c s).loader = s.loader := rfl
@[simp] theorem forward_host (q : HostReq) (c : HostClass) :
    (forward q c s).host =
      { s.host with port := .forwarded q c false } := rfl
@[simp] theorem forward_mem (q : HostReq) (c : HostClass) : (forward q c s).mem = s.mem := rfl
@[simp] theorem forward_list (q : HostReq) (c : HostClass) : (forward q c s).list = s.list := rfl
@[simp] theorem forward_rx (q : HostReq) (c : HostClass) : (forward q c s).rx = s.rx := rfl
@[simp] theorem forward_tx (q : HostReq) (c : HostClass) : (forward q c s).tx = s.tx := rfl
@[simp] theorem forward_pair (q : HostReq) (c : HostClass) : (forward q c s).pair = s.pair := rfl
@[simp] theorem forward_stream (q : HostReq) (c : HostClass) : (forward q c s).stream = s.stream := rfl
@[simp] theorem forward_apply (q : HostReq) (c : HostClass) : (forward q c s).apply = s.apply := rfl
@[simp] theorem forward_dirty (q : HostReq) (c : HostClass) : (forward q c s).dirty = s.dirty := rfl
@[simp] theorem forward_walker (q : HostReq) (c : HostClass) : (forward q c s).walker = s.walker := rfl
@[simp] theorem forward_events (q : HostReq) (c : HostClass) : (forward q c s).events = s.events := rfl
@[simp] theorem forward_mgmt (q : HostReq) (c : HostClass) : (forward q c s).mgmt = s.mgmt := rfl

/-! ### endConfirmWait -/

@[simp] theorem endConfirmWait_pending (r : HostResponse) : (endConfirmWait r s).pending = s.pending := rfl
@[simp] theorem endConfirmWait_phase (r : HostResponse) : (endConfirmWait r s).phase = s.phase := rfl
@[simp] theorem endConfirmWait_wrst (r : HostResponse) : (endConfirmWait r s).wrst = s.wrst := rfl
@[simp] theorem endConfirmWait_cfg (r : HostResponse) : (endConfirmWait r s).cfg = s.cfg := rfl
@[simp] theorem endConfirmWait_loader (r : HostResponse) : (endConfirmWait r s).loader = s.loader := rfl
@[simp] theorem endConfirmWait_host (r : HostResponse) :
    (endConfirmWait r s).host =
      { s.host with port := .idle, response := some r, confirmTimer := none } := rfl
@[simp] theorem endConfirmWait_mem (r : HostResponse) : (endConfirmWait r s).mem = s.mem := rfl
@[simp] theorem endConfirmWait_list (r : HostResponse) :
    (endConfirmWait r s).list =
      { s.list with records := clearWaiters s.list.records } := rfl
@[simp] theorem endConfirmWait_rx (r : HostResponse) : (endConfirmWait r s).rx = s.rx := rfl
@[simp] theorem endConfirmWait_tx (r : HostResponse) : (endConfirmWait r s).tx = s.tx := rfl
@[simp] theorem endConfirmWait_pair (r : HostResponse) : (endConfirmWait r s).pair = s.pair := rfl
@[simp] theorem endConfirmWait_stream (r : HostResponse) : (endConfirmWait r s).stream = s.stream := rfl
@[simp] theorem endConfirmWait_apply (r : HostResponse) : (endConfirmWait r s).apply = s.apply := rfl
@[simp] theorem endConfirmWait_dirty (r : HostResponse) : (endConfirmWait r s).dirty = s.dirty := rfl
@[simp] theorem endConfirmWait_walker (r : HostResponse) : (endConfirmWait r s).walker = s.walker := rfl
@[simp] theorem endConfirmWait_events (r : HostResponse) : (endConfirmWait r s).events = s.events := rfl
@[simp] theorem endConfirmWait_mgmt (r : HostResponse) : (endConfirmWait r s).mgmt = s.mgmt := rfl

/-! ### withdrawInternal -/

@[simp] theorem withdrawInternal_pending : (withdrawInternal s).pending = s.pending := rfl
@[simp] theorem withdrawInternal_phase : (withdrawInternal s).phase = s.phase := rfl
@[simp] theorem withdrawInternal_wrst : (withdrawInternal s).wrst = s.wrst := rfl
@[simp] theorem withdrawInternal_cfg : (withdrawInternal s).cfg = s.cfg := rfl
@[simp] theorem withdrawInternal_loader : (withdrawInternal s).loader = s.loader := rfl
@[simp] theorem withdrawInternal_host : (withdrawInternal s).host = s.host := rfl
@[simp] theorem withdrawInternal_list : (withdrawInternal s).list = s.list := rfl
@[simp] theorem withdrawInternal_rx : (withdrawInternal s).rx = s.rx := rfl
@[simp] theorem withdrawInternal_tx : (withdrawInternal s).tx = s.tx := rfl
@[simp] theorem withdrawInternal_pair : (withdrawInternal s).pair = s.pair := rfl
@[simp] theorem withdrawInternal_stream : (withdrawInternal s).stream = s.stream := rfl
@[simp] theorem withdrawInternal_apply : (withdrawInternal s).apply = s.apply := rfl
@[simp] theorem withdrawInternal_dirty : (withdrawInternal s).dirty = s.dirty := rfl
@[simp] theorem withdrawInternal_walker : (withdrawInternal s).walker = s.walker := rfl
@[simp] theorem withdrawInternal_events : (withdrawInternal s).events = s.events := rfl
@[simp] theorem withdrawInternal_mgmt : (withdrawInternal s).mgmt = s.mgmt := rfl

/-! ### askInternal -/

@[simp] theorem askInternal_pending (op : InternalOp) : (askInternal op s).pending = s.pending := rfl
@[simp] theorem askInternal_phase (op : InternalOp) : (askInternal op s).phase = s.phase := rfl
@[simp] theorem askInternal_wrst (op : InternalOp) : (askInternal op s).wrst = s.wrst := rfl
@[simp] theorem askInternal_cfg (op : InternalOp) : (askInternal op s).cfg = s.cfg := rfl
@[simp] theorem askInternal_loader (op : InternalOp) : (askInternal op s).loader = s.loader := rfl
@[simp] theorem askInternal_host (op : InternalOp) : (askInternal op s).host = s.host := rfl
@[simp] theorem askInternal_mem (op : InternalOp) : (askInternal op s).mem = requested op s.mem := rfl
@[simp] theorem askInternal_list (op : InternalOp) : (askInternal op s).list = s.list := rfl
@[simp] theorem askInternal_rx (op : InternalOp) : (askInternal op s).rx = s.rx := rfl
@[simp] theorem askInternal_tx (op : InternalOp) : (askInternal op s).tx = s.tx := rfl
@[simp] theorem askInternal_pair (op : InternalOp) : (askInternal op s).pair = s.pair := rfl
@[simp] theorem askInternal_stream (op : InternalOp) : (askInternal op s).stream = s.stream := rfl
@[simp] theorem askInternal_apply (op : InternalOp) : (askInternal op s).apply = s.apply := rfl
@[simp] theorem askInternal_dirty (op : InternalOp) : (askInternal op s).dirty = s.dirty := rfl
@[simp] theorem askInternal_walker (op : InternalOp) : (askInternal op s).walker = s.walker := rfl
@[simp] theorem askInternal_events (op : InternalOp) : (askInternal op s).events = s.events := rfl
@[simp] theorem askInternal_mgmt (op : InternalOp) : (askInternal op s).mgmt = s.mgmt := rfl

/-! ### askAgain, discardAnswer -/

@[simp] theorem askAgain_pending : (askAgain s).pending = s.pending := rfl
@[simp] theorem askAgain_phase : (askAgain s).phase = s.phase := rfl
@[simp] theorem askAgain_wrst : (askAgain s).wrst = s.wrst := rfl
@[simp] theorem askAgain_cfg : (askAgain s).cfg = s.cfg := rfl
@[simp] theorem askAgain_loader : (askAgain s).loader = s.loader := rfl
@[simp] theorem askAgain_host : (askAgain s).host = s.host := rfl
@[simp] theorem askAgain_list : (askAgain s).list = s.list := rfl
@[simp] theorem askAgain_rx : (askAgain s).rx = s.rx := rfl
@[simp] theorem askAgain_tx : (askAgain s).tx = s.tx := rfl
@[simp] theorem askAgain_pair : (askAgain s).pair = s.pair := rfl
@[simp] theorem askAgain_stream : (askAgain s).stream = s.stream := rfl
@[simp] theorem askAgain_apply : (askAgain s).apply = s.apply := rfl
@[simp] theorem askAgain_dirty : (askAgain s).dirty = s.dirty := rfl
@[simp] theorem askAgain_walker : (askAgain s).walker = s.walker := rfl
@[simp] theorem askAgain_events : (askAgain s).events = s.events := rfl
@[simp] theorem askAgain_mgmt : (askAgain s).mgmt = s.mgmt := rfl
@[simp] theorem discardAnswer_pending : (discardAnswer s).pending = s.pending := rfl
@[simp] theorem discardAnswer_phase : (discardAnswer s).phase = s.phase := rfl
@[simp] theorem discardAnswer_wrst : (discardAnswer s).wrst = s.wrst := rfl
@[simp] theorem discardAnswer_cfg : (discardAnswer s).cfg = s.cfg := rfl
@[simp] theorem discardAnswer_loader : (discardAnswer s).loader = s.loader := rfl
@[simp] theorem discardAnswer_host : (discardAnswer s).host = s.host := rfl
@[simp] theorem discardAnswer_list : (discardAnswer s).list = s.list := rfl
@[simp] theorem discardAnswer_rx : (discardAnswer s).rx = s.rx := rfl
@[simp] theorem discardAnswer_tx : (discardAnswer s).tx = s.tx := rfl
@[simp] theorem discardAnswer_pair : (discardAnswer s).pair = s.pair := rfl
@[simp] theorem discardAnswer_stream : (discardAnswer s).stream = s.stream := rfl
@[simp] theorem discardAnswer_apply : (discardAnswer s).apply = s.apply := rfl
@[simp] theorem discardAnswer_dirty : (discardAnswer s).dirty = s.dirty := rfl
@[simp] theorem discardAnswer_walker : (discardAnswer s).walker = s.walker := rfl
@[simp] theorem discardAnswer_events : (discardAnswer s).events = s.events := rfl
@[simp] theorem discardAnswer_mgmt : (discardAnswer s).mgmt = s.mgmt := rfl

/-! ### stopWalker -/

@[simp] theorem stopWalker_pending : (stopWalker s).pending = s.pending := rfl
@[simp] theorem stopWalker_phase : (stopWalker s).phase = s.phase := rfl
@[simp] theorem stopWalker_wrst : (stopWalker s).wrst = s.wrst := rfl
@[simp] theorem stopWalker_cfg : (stopWalker s).cfg = s.cfg := rfl
@[simp] theorem stopWalker_loader : (stopWalker s).loader = s.loader := rfl
@[simp] theorem stopWalker_host : (stopWalker s).host = s.host := rfl
@[simp] theorem stopWalker_mem : (stopWalker s).mem = (withdrawInternal s).mem := rfl
@[simp] theorem stopWalker_list : (stopWalker s).list = s.list := rfl
@[simp] theorem stopWalker_rx : (stopWalker s).rx = s.rx := rfl
@[simp] theorem stopWalker_tx : (stopWalker s).tx = s.tx := rfl
@[simp] theorem stopWalker_pair : (stopWalker s).pair = s.pair := rfl
@[simp] theorem stopWalker_stream : (stopWalker s).stream = s.stream := rfl
@[simp] theorem stopWalker_apply : (stopWalker s).apply = s.apply := rfl
@[simp] theorem stopWalker_dirty : (stopWalker s).dirty = s.dirty := rfl
@[simp] theorem stopWalker_walker :
    (stopWalker s).walker =
      { s.walker with run := .stopped, pauseDue := false, taken := false } := rfl
@[simp] theorem stopWalker_events : (stopWalker s).events = s.events := rfl
@[simp] theorem stopWalker_mgmt : (stopWalker s).mgmt = s.mgmt := rfl

/-! ### askNak -/

@[simp] theorem askNak_pending : (askNak s).pending = s.pending := rfl
@[simp] theorem askNak_phase : (askNak s).phase = s.phase := rfl
@[simp] theorem askNak_wrst : (askNak s).wrst = s.wrst := rfl
@[simp] theorem askNak_cfg : (askNak s).cfg = s.cfg := rfl
@[simp] theorem askNak_loader : (askNak s).loader = s.loader := rfl
@[simp] theorem askNak_host : (askNak s).host = s.host := rfl
@[simp] theorem askNak_mem : (askNak s).mem = s.mem := rfl
@[simp] theorem askNak_list : (askNak s).list = s.list := rfl
@[simp] theorem askNak_rx : (askNak s).rx = s.rx := rfl
@[simp] theorem askNak_tx : (askNak s).tx = { s.tx with ackRequest := .nak } := rfl
@[simp] theorem askNak_pair : (askNak s).pair = s.pair := rfl
@[simp] theorem askNak_stream : (askNak s).stream = s.stream := rfl
@[simp] theorem askNak_apply : (askNak s).apply = s.apply := rfl
@[simp] theorem askNak_dirty : (askNak s).dirty = s.dirty := rfl
@[simp] theorem askNak_walker : (askNak s).walker = s.walker := rfl
@[simp] theorem askNak_events : (askNak s).events = s.events := rfl
@[simp] theorem askNak_mgmt : (askNak s).mgmt = s.mgmt := rfl

/-! ### enterLink -/

@[simp] theorem enterLink_pending (l : LinkState) : (enterLink l s).pending = s.pending := rfl
@[simp] theorem enterLink_phase (l : LinkState) : (enterLink l s).phase = s.phase := rfl
@[simp] theorem enterLink_wrst (l : LinkState) : (enterLink l s).wrst = s.wrst := rfl
@[simp] theorem enterLink_cfg (l : LinkState) : (enterLink l s).cfg = s.cfg := rfl
@[simp] theorem enterLink_loader (l : LinkState) : (enterLink l s).loader = s.loader := rfl
@[simp] theorem enterLink_host (l : LinkState) : (enterLink l s).host = s.host := rfl
@[simp] theorem enterLink_mem (l : LinkState) : (enterLink l s).mem = s.mem := rfl
@[simp] theorem enterLink_list (l : LinkState) : (enterLink l s).list = s.list := rfl
@[simp] theorem enterLink_rx (l : LinkState) : (enterLink l s).rx = s.rx := rfl
@[simp] theorem enterLink_tx (l : LinkState) : (enterLink l s).tx = { s.tx with helloDue := l != .off } := rfl
@[simp] theorem enterLink_pair (l : LinkState) :
    (enterLink l s).pair =
      { s.pair with link := l, helloTimer := helloTimerAt l s, lossTimer := lossTimerAt l s } := rfl
@[simp] theorem enterLink_stream (l : LinkState) : (enterLink l s).stream = s.stream := rfl
@[simp] theorem enterLink_apply (l : LinkState) : (enterLink l s).apply = s.apply := rfl
@[simp] theorem enterLink_dirty (l : LinkState) : (enterLink l s).dirty = s.dirty := rfl
@[simp] theorem enterLink_walker (l : LinkState) : (enterLink l s).walker = s.walker := rfl
@[simp] theorem enterLink_events (l : LinkState) : (enterLink l s).events = s.events := rfl
@[simp] theorem enterLink_mgmt (l : LinkState) : (enterLink l s).mgmt = s.mgmt := rfl

/-! ### enterRole -/

@[simp] theorem enterRole_pending (r : Role) : (enterRole r s).pending = s.pending := rfl
@[simp] theorem enterRole_phase (r : Role) : (enterRole r s).phase = s.phase := rfl
@[simp] theorem enterRole_wrst (r : Role) : (enterRole r s).wrst = s.wrst := rfl
@[simp] theorem enterRole_cfg (r : Role) : (enterRole r s).cfg = s.cfg := rfl
@[simp] theorem enterRole_loader (r : Role) : (enterRole r s).loader = s.loader := rfl
@[simp] theorem enterRole_host (r : Role) : (enterRole r s).host = s.host := rfl
@[simp] theorem enterRole_mem (r : Role) : (enterRole r s).mem = s.mem := rfl
@[simp] theorem enterRole_list (r : Role) : (enterRole r s).list = s.list := rfl
@[simp] theorem enterRole_rx (r : Role) : (enterRole r s).rx = s.rx := rfl
@[simp] theorem enterRole_tx (r : Role) : (enterRole r s).tx = s.tx := rfl
@[simp] theorem enterRole_pair (r : Role) : (enterRole r s).pair = { s.pair with role := r } := rfl
@[simp] theorem enterRole_stream (r : Role) :
    (enterRole r s).stream =
      { s.stream with mode := .closed, isOpen := false, basisValid := false } := rfl
@[simp] theorem enterRole_apply (r : Role) :
    (enterRole r s).apply =
      { ApplyEngine.reset with lastFault := s.apply.lastFault } := rfl
@[simp] theorem enterRole_dirty (r : Role) : (enterRole r s).dirty = s.dirty := rfl
@[simp] theorem enterRole_walker (r : Role) : (enterRole r s).walker = s.walker := rfl
@[simp] theorem enterRole_events (r : Role) : (enterRole r s).events = s.events := rfl
@[simp] theorem enterRole_mgmt (r : Role) : (enterRole r s).mgmt = s.mgmt := rfl

/-! ### returnSent -/

@[simp] theorem returnSent_pending : (returnSent s).pending = s.pending := rfl
@[simp] theorem returnSent_phase : (returnSent s).phase = s.phase := rfl
@[simp] theorem returnSent_wrst : (returnSent s).wrst = s.wrst := rfl
@[simp] theorem returnSent_cfg : (returnSent s).cfg = s.cfg := rfl
@[simp] theorem returnSent_loader : (returnSent s).loader = s.loader := rfl
@[simp] theorem returnSent_host : (returnSent s).host = s.host := rfl
@[simp] theorem returnSent_mem : (returnSent s).mem = s.mem := rfl
@[simp] theorem returnSent_list :
    (returnSent s).list =
      { s.list with records := unsend s.list.records, retryTimer := none } := rfl
@[simp] theorem returnSent_rx : (returnSent s).rx = s.rx := rfl
@[simp] theorem returnSent_tx : (returnSent s).tx = s.tx := rfl
@[simp] theorem returnSent_pair : (returnSent s).pair = s.pair := rfl
@[simp] theorem returnSent_stream : (returnSent s).stream = s.stream := rfl
@[simp] theorem returnSent_apply : (returnSent s).apply = s.apply := rfl
@[simp] theorem returnSent_dirty : (returnSent s).dirty = s.dirty := rfl
@[simp] theorem returnSent_walker : (returnSent s).walker = s.walker := rfl
@[simp] theorem returnSent_events : (returnSent s).events = s.events := rfl
@[simp] theorem returnSent_mgmt : (returnSent s).mgmt = s.mgmt := rfl

/-! ### holdPort -/

@[simp] theorem holdPort_pending (h : HoldKind) (q : HostReq) (c : HostClass) (b : Bool) :
    (holdPort h q c b s).pending =
      s.pending := rfl
@[simp] theorem holdPort_phase (h : HoldKind) (q : HostReq) (c : HostClass) (b : Bool) :
    (holdPort h q c b s).phase =
      s.phase := rfl
@[simp] theorem holdPort_wrst (h : HoldKind) (q : HostReq) (c : HostClass) (b : Bool) :
    (holdPort h q c b s).wrst =
      s.wrst := rfl
@[simp] theorem holdPort_cfg (h : HoldKind) (q : HostReq) (c : HostClass) (b : Bool) :
    (holdPort h q c b s).cfg =
      s.cfg := rfl
@[simp] theorem holdPort_loader (h : HoldKind) (q : HostReq) (c : HostClass) (b : Bool) :
    (holdPort h q c b s).loader =
      s.loader := rfl
@[simp] theorem holdPort_host (h : HoldKind) (q : HostReq) (c : HostClass) (b : Bool) :
    (holdPort h q c b s).host =
      { s.host with port := .held h q c b } := rfl
@[simp] theorem holdPort_mem (h : HoldKind) (q : HostReq) (c : HostClass) (b : Bool) :
    (holdPort h q c b s).mem =
      s.mem := rfl
@[simp] theorem holdPort_list (h : HoldKind) (q : HostReq) (c : HostClass) (b : Bool) :
    (holdPort h q c b s).list =
      s.list := rfl
@[simp] theorem holdPort_rx (h : HoldKind) (q : HostReq) (c : HostClass) (b : Bool) :
    (holdPort h q c b s).rx =
      s.rx := rfl
@[simp] theorem holdPort_tx (h : HoldKind) (q : HostReq) (c : HostClass) (b : Bool) :
    (holdPort h q c b s).tx =
      s.tx := rfl
@[simp] theorem holdPort_pair (h : HoldKind) (q : HostReq) (c : HostClass) (b : Bool) :
    (holdPort h q c b s).pair =
      s.pair := rfl
@[simp] theorem holdPort_stream (h : HoldKind) (q : HostReq) (c : HostClass) (b : Bool) :
    (holdPort h q c b s).stream =
      s.stream := rfl
@[simp] theorem holdPort_apply (h : HoldKind) (q : HostReq) (c : HostClass) (b : Bool) :
    (holdPort h q c b s).apply =
      s.apply := rfl
@[simp] theorem holdPort_dirty (h : HoldKind) (q : HostReq) (c : HostClass) (b : Bool) :
    (holdPort h q c b s).dirty =
      s.dirty := rfl
@[simp] theorem holdPort_walker (h : HoldKind) (q : HostReq) (c : HostClass) (b : Bool) :
    (holdPort h q c b s).walker =
      s.walker := rfl
@[simp] theorem holdPort_events (h : HoldKind) (q : HostReq) (c : HostClass) (b : Bool) :
    (holdPort h q c b s).events =
      s.events := rfl
@[simp] theorem holdPort_mgmt (h : HoldKind) (q : HostReq) (c : HostClass) (b : Bool) :
    (holdPort h q c b s).mgmt =
      s.mgmt := rfl

/-! ### beginListHold -/

@[simp] theorem beginListHold_pending (q : HostReq) (c : HostClass) (b : Bool) :
    (beginListHold q c b s).pending =
      s.pending := rfl
@[simp] theorem beginListHold_phase (q : HostReq) (c : HostClass) (b : Bool) :
    (beginListHold q c b s).phase =
      s.phase := rfl
@[simp] theorem beginListHold_wrst (q : HostReq) (c : HostClass) (b : Bool) :
    (beginListHold q c b s).wrst =
      s.wrst := rfl
@[simp] theorem beginListHold_cfg (q : HostReq) (c : HostClass) (b : Bool) :
    (beginListHold q c b s).cfg =
      s.cfg := rfl
@[simp] theorem beginListHold_loader (q : HostReq) (c : HostClass) (b : Bool) :
    (beginListHold q c b s).loader =
      s.loader := rfl
@[simp] theorem beginListHold_host (q : HostReq) (c : HostClass) (b : Bool) :
    (beginListHold q c b s).host =
      { s.host with port := .held .list q c true } := rfl
@[simp] theorem beginListHold_mem (q : HostReq) (c : HostClass) (b : Bool) :
    (beginListHold q c b s).mem =
      s.mem := rfl
@[simp] theorem beginListHold_list (q : HostReq) (c : HostClass) (b : Bool) :
    (beginListHold q c b s).list =
      { s.list with holdTimer := some s.cfg.holdTimeout.toNat, holds := if b then s.list.holds else countUp s.list.holds } := rfl
@[simp] theorem beginListHold_rx (q : HostReq) (c : HostClass) (b : Bool) : (beginListHold q c b s).rx = s.rx := rfl
@[simp] theorem beginListHold_tx (q : HostReq) (c : HostClass) (b : Bool) : (beginListHold q c b s).tx = s.tx := rfl
@[simp] theorem beginListHold_pair (q : HostReq) (c : HostClass) (b : Bool) :
    (beginListHold q c b s).pair =
      s.pair := rfl
@[simp] theorem beginListHold_stream (q : HostReq) (c : HostClass) (b : Bool) :
    (beginListHold q c b s).stream =
      s.stream := rfl
@[simp] theorem beginListHold_apply (q : HostReq) (c : HostClass) (b : Bool) :
    (beginListHold q c b s).apply =
      s.apply := rfl
@[simp] theorem beginListHold_dirty (q : HostReq) (c : HostClass) (b : Bool) :
    (beginListHold q c b s).dirty =
      s.dirty := rfl
@[simp] theorem beginListHold_walker (q : HostReq) (c : HostClass) (b : Bool) :
    (beginListHold q c b s).walker =
      s.walker := rfl
@[simp] theorem beginListHold_events (q : HostReq) (c : HostClass) (b : Bool) :
    (beginListHold q c b s).events =
      s.events := rfl
@[simp] theorem beginListHold_mgmt (q : HostReq) (c : HostClass) (b : Bool) :
    (beginListHold q c b s).mgmt =
      s.mgmt := rfl

/-! ### reserveAndForward -/

@[simp] theorem reserveAndForward_pending (q : HostReq) (c : HostClass) :
    (reserveAndForward q c s).pending =
      s.pending := rfl
@[simp] theorem reserveAndForward_phase (q : HostReq) (c : HostClass) :
    (reserveAndForward q c s).phase =
      s.phase := rfl
@[simp] theorem reserveAndForward_wrst (q : HostReq) (c : HostClass) : (reserveAndForward q c s).wrst = s.wrst := rfl
@[simp] theorem reserveAndForward_cfg (q : HostReq) (c : HostClass) : (reserveAndForward q c s).cfg = s.cfg := rfl
@[simp] theorem reserveAndForward_loader (q : HostReq) (c : HostClass) :
    (reserveAndForward q c s).loader =
      s.loader := rfl
@[simp] theorem reserveAndForward_host (q : HostReq) (c : HostClass) :
    (reserveAndForward q c s).host =
      { s.host with port := .forwarded q c false } := rfl
@[simp] theorem reserveAndForward_mem (q : HostReq) (c : HostClass) : (reserveAndForward q c s).mem = s.mem := rfl
@[simp] theorem reserveAndForward_list (q : HostReq) (c : HostClass) :
    (reserveAndForward q c s).list =
      { s.list with reserved := true, holdTimer := none } := rfl
@[simp] theorem reserveAndForward_rx (q : HostReq) (c : HostClass) : (reserveAndForward q c s).rx = s.rx := rfl
@[simp] theorem reserveAndForward_tx (q : HostReq) (c : HostClass) : (reserveAndForward q c s).tx = s.tx := rfl
@[simp] theorem reserveAndForward_pair (q : HostReq) (c : HostClass) : (reserveAndForward q c s).pair = s.pair := rfl
@[simp] theorem reserveAndForward_stream (q : HostReq) (c : HostClass) :
    (reserveAndForward q c s).stream =
      s.stream := rfl
@[simp] theorem reserveAndForward_apply (q : HostReq) (c : HostClass) :
    (reserveAndForward q c s).apply =
      s.apply := rfl
@[simp] theorem reserveAndForward_dirty (q : HostReq) (c : HostClass) :
    (reserveAndForward q c s).dirty =
      s.dirty := rfl
@[simp] theorem reserveAndForward_walker (q : HostReq) (c : HostClass) :
    (reserveAndForward q c s).walker =
      s.walker := rfl
@[simp] theorem reserveAndForward_events (q : HostReq) (c : HostClass) :
    (reserveAndForward q c s).events =
      s.events := rfl
@[simp] theorem reserveAndForward_mgmt (q : HostReq) (c : HostClass) : (reserveAndForward q c s).mgmt = s.mgmt := rfl

/-! ### startFrame -/

@[simp] theorem startFrame_pending (f : Frame) : (startFrame f s).pending = s.pending := rfl
@[simp] theorem startFrame_phase (f : Frame) : (startFrame f s).phase = s.phase := rfl
@[simp] theorem startFrame_wrst (f : Frame) : (startFrame f s).wrst = s.wrst := rfl
@[simp] theorem startFrame_cfg (f : Frame) : (startFrame f s).cfg = s.cfg := rfl
@[simp] theorem startFrame_loader (f : Frame) : (startFrame f s).loader = s.loader := rfl
@[simp] theorem startFrame_host (f : Frame) : (startFrame f s).host = s.host := rfl
@[simp] theorem startFrame_mem (f : Frame) : (startFrame f s).mem = s.mem := rfl
@[simp] theorem startFrame_list (f : Frame) : (startFrame f s).list = s.list := rfl
@[simp] theorem startFrame_rx (f : Frame) : (startFrame f s).rx = s.rx := rfl
@[simp] theorem startFrame_tx (f : Frame) :
    (startFrame f s).tx =
      { s.tx with serializer := .sending f, pulseDue := false, pulseTimer := none } := rfl
@[simp] theorem startFrame_pair (f : Frame) : (startFrame f s).pair = s.pair := rfl
@[simp] theorem startFrame_stream (f : Frame) : (startFrame f s).stream = s.stream := rfl
@[simp] theorem startFrame_apply (f : Frame) : (startFrame f s).apply = s.apply := rfl
@[simp] theorem startFrame_dirty (f : Frame) : (startFrame f s).dirty = s.dirty := rfl
@[simp] theorem startFrame_walker (f : Frame) : (startFrame f s).walker = s.walker := rfl
@[simp] theorem startFrame_events (f : Frame) : (startFrame f s).events = s.events := rfl
@[simp] theorem startFrame_mgmt (f : Frame) : (startFrame f s).mgmt = s.mgmt := rfl

/-! ### selectItem -/

@[simp] theorem selectItem_pending (i : Byte) : (selectItem i s).pending = s.pending := rfl
@[simp] theorem selectItem_phase (i : Byte) : (selectItem i s).phase = s.phase := rfl
@[simp] theorem selectItem_wrst (i : Byte) : (selectItem i s).wrst = s.wrst := rfl
@[simp] theorem selectItem_cfg (i : Byte) : (selectItem i s).cfg = s.cfg := rfl
@[simp] theorem selectItem_loader (i : Byte) : (selectItem i s).loader = s.loader := rfl
@[simp] theorem selectItem_host (i : Byte) : (selectItem i s).host = s.host := rfl
@[simp] theorem selectItem_mem (i : Byte) : (selectItem i s).mem = s.mem := rfl
@[simp] theorem selectItem_list (i : Byte) : (selectItem i s).list = s.list := rfl
@[simp] theorem selectItem_rx (i : Byte) : (selectItem i s).rx = s.rx := rfl
@[simp] theorem selectItem_tx (i : Byte) : (selectItem i s).tx = s.tx := rfl
@[simp] theorem selectItem_pair (i : Byte) : (selectItem i s).pair = s.pair := rfl
@[simp] theorem selectItem_stream (i : Byte) : (selectItem i s).stream = s.stream := rfl
@[simp] theorem selectItem_apply (i : Byte) : (selectItem i s).apply = s.apply := rfl
@[simp] theorem selectItem_dirty (i : Byte) : (selectItem i s).dirty = s.dirty := rfl
@[simp] theorem selectItem_walker (i : Byte) : (selectItem i s).walker = s.walker := rfl
@[simp] theorem selectItem_events (i : Byte) : (selectItem i s).events = s.events := rfl
@[simp] theorem selectItem_mgmt (i : Byte) : (selectItem i s).mgmt = { s.mgmt with selected := i } := rfl

/-! ### setAccess -/

@[simp] theorem setAccess_pending (a : Access) : (setAccess a s).pending = s.pending := rfl
@[simp] theorem setAccess_phase (a : Access) : (setAccess a s).phase = s.phase := rfl
@[simp] theorem setAccess_wrst (a : Access) : (setAccess a s).wrst = s.wrst := rfl
@[simp] theorem setAccess_cfg (a : Access) : (setAccess a s).cfg = s.cfg := rfl
@[simp] theorem setAccess_loader (a : Access) : (setAccess a s).loader = s.loader := rfl
@[simp] theorem setAccess_host (a : Access) : (setAccess a s).host = s.host := rfl
@[simp] theorem setAccess_mem (a : Access) : (setAccess a s).mem = s.mem := rfl
@[simp] theorem setAccess_list (a : Access) : (setAccess a s).list = s.list := rfl
@[simp] theorem setAccess_rx (a : Access) : (setAccess a s).rx = s.rx := rfl
@[simp] theorem setAccess_tx (a : Access) : (setAccess a s).tx = s.tx := rfl
@[simp] theorem setAccess_pair (a : Access) : (setAccess a s).pair = s.pair := rfl
@[simp] theorem setAccess_stream (a : Access) : (setAccess a s).stream = s.stream := rfl
@[simp] theorem setAccess_apply (a : Access) : (setAccess a s).apply = s.apply := rfl
@[simp] theorem setAccess_dirty (a : Access) : (setAccess a s).dirty = s.dirty := rfl
@[simp] theorem setAccess_walker (a : Access) : (setAccess a s).walker = s.walker := rfl
@[simp] theorem setAccess_events (a : Access) : (setAccess a s).events = s.events := rfl
@[simp] theorem setAccess_mgmt (a : Access) : (setAccess a s).mgmt = { s.mgmt with access := a } := rfl

/-! ### describe -/

@[simp] theorem describe_pending (c : Command) (st : CmdState) (r : Reason) (d : Detail) :
    (describe c st r d s).pending =
      s.pending := rfl
@[simp] theorem describe_phase (c : Command) (st : CmdState) (r : Reason) (d : Detail) :
    (describe c st r d s).phase =
      s.phase := rfl
@[simp] theorem describe_wrst (c : Command) (st : CmdState) (r : Reason) (d : Detail) :
    (describe c st r d s).wrst =
      s.wrst := rfl
@[simp] theorem describe_cfg (c : Command) (st : CmdState) (r : Reason) (d : Detail) :
    (describe c st r d s).cfg =
      s.cfg := rfl
@[simp] theorem describe_loader (c : Command) (st : CmdState) (r : Reason) (d : Detail) :
    (describe c st r d s).loader =
      s.loader := rfl
@[simp] theorem describe_host (c : Command) (st : CmdState) (r : Reason) (d : Detail) :
    (describe c st r d s).host =
      s.host := rfl
@[simp] theorem describe_mem (c : Command) (st : CmdState) (r : Reason) (d : Detail) :
    (describe c st r d s).mem =
      s.mem := rfl
@[simp] theorem describe_list (c : Command) (st : CmdState) (r : Reason) (d : Detail) :
    (describe c st r d s).list =
      s.list := rfl
@[simp] theorem describe_rx (c : Command) (st : CmdState) (r : Reason) (d : Detail) :
    (describe c st r d s).rx =
      s.rx := rfl
@[simp] theorem describe_tx (c : Command) (st : CmdState) (r : Reason) (d : Detail) :
    (describe c st r d s).tx =
      s.tx := rfl
@[simp] theorem describe_pair (c : Command) (st : CmdState) (r : Reason) (d : Detail) :
    (describe c st r d s).pair =
      s.pair := rfl
@[simp] theorem describe_stream (c : Command) (st : CmdState) (r : Reason) (d : Detail) :
    (describe c st r d s).stream =
      s.stream := rfl
@[simp] theorem describe_apply (c : Command) (st : CmdState) (r : Reason) (d : Detail) :
    (describe c st r d s).apply =
      s.apply := rfl
@[simp] theorem describe_dirty (c : Command) (st : CmdState) (r : Reason) (d : Detail) :
    (describe c st r d s).dirty =
      s.dirty := rfl
@[simp] theorem describe_walker (c : Command) (st : CmdState) (r : Reason) (d : Detail) :
    (describe c st r d s).walker =
      s.walker := rfl
@[simp] theorem describe_events (c : Command) (st : CmdState) (r : Reason) (d : Detail) :
    (describe c st r d s).events =
      s.events := rfl
@[simp] theorem describe_mgmt (c : Command) (st : CmdState) (r : Reason) (d : Detail) :
    (describe c st r d s).mgmt =
      { s.mgmt with result := { command := some c, state := st, reason := r, detail := d, busyRefusal := none } } := rfl

/-! ### zeroCounters -/

@[simp] theorem zeroCounters_pending : (zeroCounters s).pending = s.pending := rfl
@[simp] theorem zeroCounters_phase : (zeroCounters s).phase = s.phase := rfl
@[simp] theorem zeroCounters_wrst : (zeroCounters s).wrst = s.wrst := rfl
@[simp] theorem zeroCounters_cfg : (zeroCounters s).cfg = s.cfg := rfl
@[simp] theorem zeroCounters_loader : (zeroCounters s).loader = s.loader := rfl
@[simp] theorem zeroCounters_host : (zeroCounters s).host = s.host := rfl
@[simp] theorem zeroCounters_mem : (zeroCounters s).mem = s.mem := rfl
@[simp] theorem zeroCounters_list : (zeroCounters s).list = { s.list with retransmits := 0#16, holds := 0#16 } := rfl
@[simp] theorem zeroCounters_rx :
    (zeroCounters s).rx =
      { s.rx with charErrors := 0#16, badFrames := 0#16, rxDrops := 0#16 } := rfl
@[simp] theorem zeroCounters_tx : (zeroCounters s).tx = s.tx := rfl
@[simp] theorem zeroCounters_pair : (zeroCounters s).pair = s.pair := rfl
@[simp] theorem zeroCounters_stream : (zeroCounters s).stream = s.stream := rfl
@[simp] theorem zeroCounters_apply : (zeroCounters s).apply = s.apply := rfl
@[simp] theorem zeroCounters_dirty : (zeroCounters s).dirty = s.dirty := rfl
@[simp] theorem zeroCounters_walker : (zeroCounters s).walker = s.walker := rfl
@[simp] theorem zeroCounters_events : (zeroCounters s).events = s.events := rfl
@[simp] theorem zeroCounters_mgmt : (zeroCounters s).mgmt = s.mgmt := rfl

/-! ### dropReservation -/

@[simp] theorem dropReservation_pending : (dropReservation s).pending = s.pending := rfl
@[simp] theorem dropReservation_phase : (dropReservation s).phase = s.phase := rfl
@[simp] theorem dropReservation_wrst : (dropReservation s).wrst = s.wrst := rfl
@[simp] theorem dropReservation_cfg : (dropReservation s).cfg = s.cfg := rfl
@[simp] theorem dropReservation_loader : (dropReservation s).loader = s.loader := rfl
@[simp] theorem dropReservation_host : (dropReservation s).host = s.host := rfl
@[simp] theorem dropReservation_mem : (dropReservation s).mem = s.mem := rfl
@[simp] theorem dropReservation_list : (dropReservation s).list = { s.list with reserved := false } := rfl
@[simp] theorem dropReservation_rx : (dropReservation s).rx = s.rx := rfl
@[simp] theorem dropReservation_tx : (dropReservation s).tx = s.tx := rfl
@[simp] theorem dropReservation_pair : (dropReservation s).pair = s.pair := rfl
@[simp] theorem dropReservation_stream : (dropReservation s).stream = s.stream := rfl
@[simp] theorem dropReservation_apply : (dropReservation s).apply = s.apply := rfl
@[simp] theorem dropReservation_dirty : (dropReservation s).dirty = s.dirty := rfl
@[simp] theorem dropReservation_walker : (dropReservation s).walker = s.walker := rfl
@[simp] theorem dropReservation_events : (dropReservation s).events = s.events := rfl
@[simp] theorem dropReservation_mgmt : (dropReservation s).mgmt = s.mgmt := rfl

/-! ### markWrite -/

@[simp] theorem markWrite_pending (q : HostReq) : (markWrite q s).pending = s.pending := rfl
@[simp] theorem markWrite_phase (q : HostReq) : (markWrite q s).phase = s.phase := rfl
@[simp] theorem markWrite_wrst (q : HostReq) : (markWrite q s).wrst = s.wrst := rfl
@[simp] theorem markWrite_cfg (q : HostReq) : (markWrite q s).cfg = s.cfg := rfl
@[simp] theorem markWrite_loader (q : HostReq) : (markWrite q s).loader = s.loader := rfl
@[simp] theorem markWrite_host (q : HostReq) : (markWrite q s).host = s.host := rfl
@[simp] theorem markWrite_mem (q : HostReq) : (markWrite q s).mem = s.mem := rfl
@[simp] theorem markWrite_list (q : HostReq) : (markWrite q s).list = s.list := rfl
@[simp] theorem markWrite_rx (q : HostReq) : (markWrite q s).rx = s.rx := rfl
@[simp] theorem markWrite_tx (q : HostReq) : (markWrite q s).tx = s.tx := rfl
@[simp] theorem markWrite_pair (q : HostReq) : (markWrite q s).pair = s.pair := rfl
@[simp] theorem markWrite_stream (q : HostReq) : (markWrite q s).stream = s.stream := rfl
@[simp] theorem markWrite_apply (q : HostReq) : (markWrite q s).apply = s.apply := rfl
@[simp] theorem markWrite_dirty (q : HostReq) : (markWrite q s).dirty = markBlock (blockOf q.addr) s.dirty := rfl
@[simp] theorem markWrite_walker (q : HostReq) : (markWrite q s).walker = s.walker := rfl
@[simp] theorem markWrite_events (q : HostReq) : (markWrite q s).events = s.events := rfl
@[simp] theorem markWrite_mgmt (q : HostReq) : (markWrite q s).mgmt = s.mgmt := rfl

/-! ### beginConfirmWait -/

@[simp] theorem beginConfirmWait_pending (q : HostReq) : (beginConfirmWait q s).pending = s.pending := rfl
@[simp] theorem beginConfirmWait_phase (q : HostReq) : (beginConfirmWait q s).phase = s.phase := rfl
@[simp] theorem beginConfirmWait_wrst (q : HostReq) : (beginConfirmWait q s).wrst = s.wrst := rfl
@[simp] theorem beginConfirmWait_cfg (q : HostReq) : (beginConfirmWait q s).cfg = s.cfg := rfl
@[simp] theorem beginConfirmWait_loader (q : HostReq) : (beginConfirmWait q s).loader = s.loader := rfl
@[simp] theorem beginConfirmWait_host (q : HostReq) :
    (beginConfirmWait q s).host =
      { s.host with port := .withheld q, confirmTimer := some s.cfg.confirmTimeout.toNat } := rfl
@[simp] theorem beginConfirmWait_mem (q : HostReq) : (beginConfirmWait q s).mem = s.mem := rfl
@[simp] theorem beginConfirmWait_list (q : HostReq) : (beginConfirmWait q s).list = s.list := rfl
@[simp] theorem beginConfirmWait_rx (q : HostReq) : (beginConfirmWait q s).rx = s.rx := rfl
@[simp] theorem beginConfirmWait_tx (q : HostReq) : (beginConfirmWait q s).tx = s.tx := rfl
@[simp] theorem beginConfirmWait_pair (q : HostReq) : (beginConfirmWait q s).pair = s.pair := rfl
@[simp] theorem beginConfirmWait_stream (q : HostReq) : (beginConfirmWait q s).stream = s.stream := rfl
@[simp] theorem beginConfirmWait_apply (q : HostReq) : (beginConfirmWait q s).apply = s.apply := rfl
@[simp] theorem beginConfirmWait_dirty (q : HostReq) : (beginConfirmWait q s).dirty = s.dirty := rfl
@[simp] theorem beginConfirmWait_walker (q : HostReq) : (beginConfirmWait q s).walker = s.walker := rfl
@[simp] theorem beginConfirmWait_events (q : HostReq) : (beginConfirmWait q s).events = s.events := rfl
@[simp] theorem beginConfirmWait_mgmt (q : HostReq) : (beginConfirmWait q s).mgmt = s.mgmt := rfl

/-! ### setAssembler -/

@[simp] theorem setAssembler_pending (a : Assembler) : (setAssembler a s).pending = s.pending := rfl
@[simp] theorem setAssembler_phase (a : Assembler) : (setAssembler a s).phase = s.phase := rfl
@[simp] theorem setAssembler_wrst (a : Assembler) : (setAssembler a s).wrst = s.wrst := rfl
@[simp] theorem setAssembler_cfg (a : Assembler) : (setAssembler a s).cfg = s.cfg := rfl
@[simp] theorem setAssembler_loader (a : Assembler) : (setAssembler a s).loader = s.loader := rfl
@[simp] theorem setAssembler_host (a : Assembler) : (setAssembler a s).host = s.host := rfl
@[simp] theorem setAssembler_mem (a : Assembler) : (setAssembler a s).mem = s.mem := rfl
@[simp] theorem setAssembler_list (a : Assembler) : (setAssembler a s).list = s.list := rfl
@[simp] theorem setAssembler_rx (a : Assembler) : (setAssembler a s).rx = { s.rx with assembler := a } := rfl
@[simp] theorem setAssembler_tx (a : Assembler) : (setAssembler a s).tx = s.tx := rfl
@[simp] theorem setAssembler_pair (a : Assembler) : (setAssembler a s).pair = s.pair := rfl
@[simp] theorem setAssembler_stream (a : Assembler) : (setAssembler a s).stream = s.stream := rfl
@[simp] theorem setAssembler_apply (a : Assembler) : (setAssembler a s).apply = s.apply := rfl
@[simp] theorem setAssembler_dirty (a : Assembler) : (setAssembler a s).dirty = s.dirty := rfl
@[simp] theorem setAssembler_walker (a : Assembler) : (setAssembler a s).walker = s.walker := rfl
@[simp] theorem setAssembler_events (a : Assembler) : (setAssembler a s).events = s.events := rfl
@[simp] theorem setAssembler_mgmt (a : Assembler) : (setAssembler a s).mgmt = s.mgmt := rfl

/-! ### dropOldest -/

@[simp] theorem dropOldest_pending : (dropOldest s).pending = s.pending := rfl
@[simp] theorem dropOldest_phase : (dropOldest s).phase = s.phase := rfl
@[simp] theorem dropOldest_wrst : (dropOldest s).wrst = s.wrst := rfl
@[simp] theorem dropOldest_cfg : (dropOldest s).cfg = s.cfg := rfl
@[simp] theorem dropOldest_loader : (dropOldest s).loader = s.loader := rfl
@[simp] theorem dropOldest_host : (dropOldest s).host = s.host := rfl
@[simp] theorem dropOldest_mem : (dropOldest s).mem = s.mem := rfl
@[simp] theorem dropOldest_list : (dropOldest s).list = s.list := rfl
@[simp] theorem dropOldest_rx : (dropOldest s).rx = { s.rx with buffer := s.rx.buffer.tail } := rfl
@[simp] theorem dropOldest_tx : (dropOldest s).tx = s.tx := rfl
@[simp] theorem dropOldest_pair : (dropOldest s).pair = s.pair := rfl
@[simp] theorem dropOldest_stream : (dropOldest s).stream = s.stream := rfl
@[simp] theorem dropOldest_apply : (dropOldest s).apply = s.apply := rfl
@[simp] theorem dropOldest_dirty : (dropOldest s).dirty = s.dirty := rfl
@[simp] theorem dropOldest_walker : (dropOldest s).walker = s.walker := rfl
@[simp] theorem dropOldest_events : (dropOldest s).events = s.events := rfl
@[simp] theorem dropOldest_mgmt : (dropOldest s).mgmt = s.mgmt := rfl

/-! ### freeBus -/

@[simp] theorem freeBus_pending : (freeBus s).pending = s.pending := rfl
@[simp] theorem freeBus_phase : (freeBus s).phase = s.phase := rfl
@[simp] theorem freeBus_wrst : (freeBus s).wrst = s.wrst := rfl
@[simp] theorem freeBus_cfg : (freeBus s).cfg = s.cfg := rfl
@[simp] theorem freeBus_loader : (freeBus s).loader = s.loader := rfl
@[simp] theorem freeBus_host : (freeBus s).host = s.host := rfl
@[simp] theorem freeBus_mem : (freeBus s).mem = { s.mem with bus := none } := rfl
@[simp] theorem freeBus_list : (freeBus s).list = s.list := rfl
@[simp] theorem freeBus_rx : (freeBus s).rx = s.rx := rfl
@[simp] theorem freeBus_tx : (freeBus s).tx = s.tx := rfl
@[simp] theorem freeBus_pair : (freeBus s).pair = s.pair := rfl
@[simp] theorem freeBus_stream : (freeBus s).stream = s.stream := rfl
@[simp] theorem freeBus_apply : (freeBus s).apply = s.apply := rfl
@[simp] theorem freeBus_dirty : (freeBus s).dirty = s.dirty := rfl
@[simp] theorem freeBus_walker : (freeBus s).walker = s.walker := rfl
@[simp] theorem freeBus_events : (freeBus s).events = s.events := rfl
@[simp] theorem freeBus_mgmt : (freeBus s).mgmt = s.mgmt := rfl

/-! ### setAutoResync -/

@[simp] theorem setAutoResync_pending (a : AutoResync) : (setAutoResync a s).pending = s.pending := rfl
@[simp] theorem setAutoResync_phase (a : AutoResync) : (setAutoResync a s).phase = s.phase := rfl
@[simp] theorem setAutoResync_wrst (a : AutoResync) : (setAutoResync a s).wrst = s.wrst := rfl
@[simp] theorem setAutoResync_cfg (a : AutoResync) : (setAutoResync a s).cfg = s.cfg := rfl
@[simp] theorem setAutoResync_loader (a : AutoResync) : (setAutoResync a s).loader = s.loader := rfl
@[simp] theorem setAutoResync_host (a : AutoResync) : (setAutoResync a s).host = s.host := rfl
@[simp] theorem setAutoResync_mem (a : AutoResync) : (setAutoResync a s).mem = s.mem := rfl
@[simp] theorem setAutoResync_list (a : AutoResync) : (setAutoResync a s).list = s.list := rfl
@[simp] theorem setAutoResync_rx (a : AutoResync) : (setAutoResync a s).rx = s.rx := rfl
@[simp] theorem setAutoResync_tx (a : AutoResync) : (setAutoResync a s).tx = s.tx := rfl
@[simp] theorem setAutoResync_pair (a : AutoResync) : (setAutoResync a s).pair = s.pair := rfl
@[simp] theorem setAutoResync_stream (a : AutoResync) : (setAutoResync a s).stream = s.stream := rfl
@[simp] theorem setAutoResync_apply (a : AutoResync) : (setAutoResync a s).apply = s.apply := rfl
@[simp] theorem setAutoResync_dirty (a : AutoResync) : (setAutoResync a s).dirty = s.dirty := rfl
@[simp] theorem setAutoResync_walker (a : AutoResync) : (setAutoResync a s).walker = s.walker := rfl
@[simp] theorem setAutoResync_events (a : AutoResync) :
    (setAutoResync a s).events =
      { s.events with autoResync := a } := rfl
@[simp] theorem setAutoResync_mgmt (a : AutoResync) : (setAutoResync a s).mgmt = s.mgmt := rfl

/-! ### readSelected -/

@[simp] theorem readSelected_pending (n : Nat) : (readSelected n s).pending = s.pending := rfl
@[simp] theorem readSelected_phase (n : Nat) : (readSelected n s).phase = s.phase := rfl
@[simp] theorem readSelected_wrst (n : Nat) : (readSelected n s).wrst = s.wrst := rfl
@[simp] theorem readSelected_cfg (n : Nat) : (readSelected n s).cfg = s.cfg := rfl
@[simp] theorem readSelected_loader (n : Nat) : (readSelected n s).loader = s.loader := rfl
@[simp] theorem readSelected_host (n : Nat) : (readSelected n s).host = s.host := rfl
@[simp] theorem readSelected_mem (n : Nat) : (readSelected n s).mem = s.mem := rfl
@[simp] theorem readSelected_list (n : Nat) : (readSelected n s).list = s.list := rfl
@[simp] theorem readSelected_rx (n : Nat) : (readSelected n s).rx = s.rx := rfl
@[simp] theorem readSelected_tx (n : Nat) : (readSelected n s).tx = s.tx := rfl
@[simp] theorem readSelected_pair (n : Nat) : (readSelected n s).pair = s.pair := rfl
@[simp] theorem readSelected_stream (n : Nat) : (readSelected n s).stream = s.stream := rfl
@[simp] theorem readSelected_apply (n : Nat) : (readSelected n s).apply = s.apply := rfl
@[simp] theorem readSelected_dirty (n : Nat) : (readSelected n s).dirty = s.dirty := rfl
@[simp] theorem readSelected_walker (n : Nat) : (readSelected n s).walker = s.walker := rfl
@[simp] theorem readSelected_events (n : Nat) : (readSelected n s).events = s.events := rfl

/-! ### appendHandover -/

@[simp] theorem appendHandover_pending : (appendHandover s).pending = s.pending := rfl
@[simp] theorem appendHandover_phase : (appendHandover s).phase = s.phase := rfl
@[simp] theorem appendHandover_wrst : (appendHandover s).wrst = s.wrst := rfl
@[simp] theorem appendHandover_cfg : (appendHandover s).cfg = s.cfg := rfl
@[simp] theorem appendHandover_loader : (appendHandover s).loader = s.loader := rfl
@[simp] theorem appendHandover_host : (appendHandover s).host = s.host := rfl
@[simp] theorem appendHandover_mem : (appendHandover s).mem = s.mem := rfl
@[simp] theorem appendHandover_list :
    (appendHandover s).list =
      addRecord (.handoverMark (s.stream.epoch + 1#16)) .pending false s.list := rfl
@[simp] theorem appendHandover_rx : (appendHandover s).rx = s.rx := rfl
@[simp] theorem appendHandover_tx : (appendHandover s).tx = s.tx := rfl
@[simp] theorem appendHandover_pair : (appendHandover s).pair = { s.pair with drainTimer := none } := rfl
@[simp] theorem appendHandover_stream : (appendHandover s).stream = s.stream := rfl
@[simp] theorem appendHandover_apply : (appendHandover s).apply = s.apply := rfl
@[simp] theorem appendHandover_dirty : (appendHandover s).dirty = s.dirty := rfl
@[simp] theorem appendHandover_walker : (appendHandover s).walker = s.walker := rfl
@[simp] theorem appendHandover_events : (appendHandover s).events = s.events := rfl
@[simp] theorem appendHandover_mgmt :
    (appendHandover s).mgmt =
      { s.mgmt with result := { s.mgmt.result with detail := .marked } } := rfl

end Sys2Proof.Machine
end

