-- ==== Sys2Proof/Laws/Events.lean ====
section
/-! SUPPORT. What taking an event can do (`raise`, R157, R163): its flag, the ALERT line and, for the two events
that have a reflex, that reflex; nothing else. -/

namespace Sys2Proof.Machine

/-- Everything that taking an event can do: the flagged state with its ALERT line, and on it the promote timer of a
STANDBY unit or the auto-resync request, where the event's route is REFLEX. -/
theorem raise_cases (e : Event) (s : State) :
    raise e s = updateAlert { s with events := { s.events with flags := withFlag s.events.flags e } }
    ∨ (e = .linkLost ∧ s.pair.role = .standby ∧ raise e s =
        { s with
          pair := { s.pair with promoteTimer := some (1000 * s.cfg.promoteDelay.toNat) }
          events := { s.events with
            flags := withFlag s.events.flags e
            alert := alertCondition (withFlag s.events.flags e) s.cfg.routes
            autoPromote := .waiting } })
    ∨ (e = .partnerInconsistent ∧ raise e s =
        { s with
          walker := { s.walker with autoRequest := true }
          events := { s.events with
            flags := withFlag s.events.flags e
            alert := alertCondition (withFlag s.events.flags e) s.cfg.routes
            autoResync := .pending } }) := by
  unfold raise startReflex
  split
  · split
    · by_cases h : s.pair.role = .standby
      · exact .inr (.inl ⟨rfl, h, by simp [updateAlert, h]⟩)
      · exact .inl (by simp [updateAlert, h])
    · exact .inr (.inr ⟨rfl, rfl⟩)
    · exact .inl rfl
  · exact .inl rfl

/-- An event without a reflex only sets its flag and brings the ALERT line up to date. -/
theorem raise_plain {e : Event} (h₁ : e ≠ .linkLost) (h₂ : e ≠ .partnerInconsistent) (s : State) :
    raise e s = updateAlert { s with events := { s.events with flags := withFlag s.events.flags e } } := by
  rcases raise_cases e s with h | ⟨h, _⟩ | ⟨h, _⟩
  · exact h
  · exact absurd h h₁
  · exact absurd h h₂

@[simp] theorem raise_pending (e : Event) (s : State) : (raise e s).pending = s.pending := by
  rcases raise_cases e s with h | ⟨_, _, h⟩ | ⟨_, h⟩ <;> simp [h]

@[simp] theorem raise_phase (e : Event) (s : State) : (raise e s).phase = s.phase := by
  rcases raise_cases e s with h | ⟨_, _, h⟩ | ⟨_, h⟩ <;> simp [h]

@[simp] theorem raise_wrst (e : Event) (s : State) : (raise e s).wrst = s.wrst := by
  rcases raise_cases e s with h | ⟨_, _, h⟩ | ⟨_, h⟩ <;> simp [h]

@[simp] theorem raise_cfg (e : Event) (s : State) : (raise e s).cfg = s.cfg := by
  rcases raise_cases e s with h | ⟨_, _, h⟩ | ⟨_, h⟩ <;> simp [h]

@[simp] theorem raise_loader (e : Event) (s : State) : (raise e s).loader = s.loader := by
  rcases raise_cases e s with h | ⟨_, _, h⟩ | ⟨_, h⟩ <;> simp [h]

@[simp] theorem raise_host (e : Event) (s : State) : (raise e s).host = s.host := by
  rcases raise_cases e s with h | ⟨_, _, h⟩ | ⟨_, h⟩ <;> simp [h]

@[simp] theorem raise_mem (e : Event) (s : State) : (raise e s).mem = s.mem := by
  rcases raise_cases e s with h | ⟨_, _, h⟩ | ⟨_, h⟩ <;> simp [h]

@[simp] theorem raise_list (e : Event) (s : State) : (raise e s).list = s.list := by
  rcases raise_cases e s with h | ⟨_, _, h⟩ | ⟨_, h⟩ <;> simp [h]

@[simp] theorem raise_rx (e : Event) (s : State) : (raise e s).rx = s.rx := by
  rcases raise_cases e s with h | ⟨_, _, h⟩ | ⟨_, h⟩ <;> simp [h]

@[simp] theorem raise_tx (e : Event) (s : State) : (raise e s).tx = s.tx := by
  rcases raise_cases e s with h | ⟨_, _, h⟩ | ⟨_, h⟩ <;> simp [h]

@[simp] theorem raise_stream (e : Event) (s : State) : (raise e s).stream = s.stream := by
  rcases raise_cases e s with h | ⟨_, _, h⟩ | ⟨_, h⟩ <;> simp [h]

@[simp] theorem raise_apply (e : Event) (s : State) : (raise e s).apply = s.apply := by
  rcases raise_cases e s with h | ⟨_, _, h⟩ | ⟨_, h⟩ <;> simp [h]

@[simp] theorem raise_dirty (e : Event) (s : State) : (raise e s).dirty = s.dirty := by
  rcases raise_cases e s with h | ⟨_, _, h⟩ | ⟨_, h⟩ <;> simp [h]

@[simp] theorem raise_mgmt (e : Event) (s : State) : (raise e s).mgmt = s.mgmt := by
  rcases raise_cases e s with h | ⟨_, _, h⟩ | ⟨_, h⟩ <;> simp [h]

@[simp] theorem raise_pair_role (e : Event) (s : State) : (raise e s).pair.role = s.pair.role := by
  rcases raise_cases e s with h | ⟨_, _, h⟩ | ⟨_, h⟩ <;> simp [h]

@[simp] theorem raise_pair_link (e : Event) (s : State) : (raise e s).pair.link = s.pair.link := by
  rcases raise_cases e s with h | ⟨_, _, h⟩ | ⟨_, h⟩ <;> simp [h]

@[simp] theorem raise_pair_partner (e : Event) (s : State) : (raise e s).pair.partner = s.pair.partner := by
  rcases raise_cases e s with h | ⟨_, _, h⟩ | ⟨_, h⟩ <;> simp [h]

@[simp] theorem raise_pair_helloTimer (e : Event) (s : State) : (raise e s).pair.helloTimer = s.pair.helloTimer := by
  rcases raise_cases e s with h | ⟨_, _, h⟩ | ⟨_, h⟩ <;> simp [h]

@[simp] theorem raise_pair_lossTimer (e : Event) (s : State) : (raise e s).pair.lossTimer = s.pair.lossTimer := by
  rcases raise_cases e s with h | ⟨_, _, h⟩ | ⟨_, h⟩ <;> simp [h]

@[simp] theorem raise_pair_drainTimer (e : Event) (s : State) : (raise e s).pair.drainTimer = s.pair.drainTimer := by
  rcases raise_cases e s with h | ⟨_, _, h⟩ | ⟨_, h⟩ <;> simp [h]

@[simp] theorem raise_walker_run (e : Event) (s : State) :
    (raise e s).walker.run = s.walker.run := by
  rcases raise_cases e s with h | ⟨_, _, h⟩ | ⟨_, h⟩ <;> simp [h]

@[simp] theorem raise_walker_pauseDue (e : Event) (s : State) :
    (raise e s).walker.pauseDue = s.walker.pauseDue := by
  rcases raise_cases e s with h | ⟨_, _, h⟩ | ⟨_, h⟩ <;> simp [h]

@[simp] theorem raise_walker_cursor (e : Event) (s : State) :
    (raise e s).walker.cursor = s.walker.cursor := by
  rcases raise_cases e s with h | ⟨_, _, h⟩ | ⟨_, h⟩ <;> simp [h]

@[simp] theorem raise_walker_taken (e : Event) (s : State) :
    (raise e s).walker.taken = s.walker.taken := by
  rcases raise_cases e s with h | ⟨_, _, h⟩ | ⟨_, h⟩ <;> simp [h]

@[simp] theorem raise_walker_nextChunk (e : Event) (s : State) :
    (raise e s).walker.nextChunk = s.walker.nextChunk := by
  rcases raise_cases e s with h | ⟨_, _, h⟩ | ⟨_, h⟩ <;> simp [h]

@[simp] theorem raise_walker_outcome (e : Event) (s : State) :
    (raise e s).walker.outcome = s.walker.outcome := by
  rcases raise_cases e s with h | ⟨_, _, h⟩ | ⟨_, h⟩ <;> simp [h]

@[simp] theorem raise_walker_scope (e : Event) (s : State) :
    (raise e s).walker.scope = s.walker.scope := by
  rcases raise_cases e s with h | ⟨_, _, h⟩ | ⟨_, h⟩ <;> simp [h]

@[simp] theorem raise_walker_epoch (e : Event) (s : State) :
    (raise e s).walker.epoch = s.walker.epoch := by
  rcases raise_cases e s with h | ⟨_, _, h⟩ | ⟨_, h⟩ <;> simp [h]

@[simp] theorem raise_pair {e : Event} (h : e ≠ .linkLost) (s : State) : (raise e s).pair = s.pair := by
  rcases raise_cases e s with h' | ⟨h', _, _⟩ | ⟨_, h'⟩
  · simp [h']
  · exact absurd h' h
  · simp [h']

@[simp] theorem raise_walker {e : Event} (h : e ≠ .partnerInconsistent) (s : State) :
    (raise e s).walker = s.walker := by
  rcases raise_cases e s with h' | ⟨_, _, h'⟩ | ⟨h', _⟩
  · simp [h']
  · simp [h']
  · exact absurd h' h

@[simp] theorem raise_flags (e : Event) (s : State) :
    (raise e s).events.flags = withFlag s.events.flags e := by
  rcases raise_cases e s with h | ⟨_, _, h⟩ | ⟨_, h⟩ <;> simp [h]

@[simp] theorem raise_alert (e : Event) (s : State) :
    (raise e s).events.alert = alertCondition (withFlag s.events.flags e) s.cfg.routes := by
  rcases raise_cases e s with h | ⟨_, _, h⟩ | ⟨_, h⟩ <;> simp [h]

/-- An event taken leaves the ALERT line exact (R161). -/
theorem raise_alertExact (e : Event) (s : State) : Safety.alertExact (raise e s) = true := by
  simp [Safety.alertExact]

/-- The flag of an event taken is set (R157). -/
@[simp] theorem flagSet_withFlag_self (flags : BitVec 15) (e : Event) : flagSet (withFlag flags e) e = true := by
  cases e <;> simp [flagSet, withFlag, eventBit]

/-- A flag already set stays set (R157). -/
theorem flagSet_withFlag_of_flagSet {flags : BitVec 15} {e : Event} (e' : Event) (h : flagSet flags e = true) :
    flagSet (withFlag flags e') e = true := by
  simp only [flagSet, withFlag, BitVec.getLsbD_or] at *
  simp [h]

/-- A flag set before an event is set after it. -/
theorem flagSet_raise {e : Event} (e' : Event) {s : State} (h : flagSet s.events.flags e = true) :
    flagSet (raise e' s).events.flags e = true := by
  rw [raise_flags]
  exact flagSet_withFlag_of_flagSet e' h

end Sys2Proof.Machine
end

