-- ==== Sys2Proof/Laws/Frames.lean ====
section
/-! SUPPORT. What the shared operations never touch: the waiting commands, the reset phase, the level of WRST, the
configuration in force and the loader. Each lemma says it of one operation, so that a proof about a step cites it
and does not unfold the operation. -/

namespace Sys2Proof.Machine

variable (s : State)

/-! ### failConfirmWait -/

@[simp] theorem failConfirmWait_pending : (failConfirmWait s).pending = s.pending := by
  unfold failConfirmWait
  try dsimp only
  repeat' split
  all_goals simp

@[simp] theorem failConfirmWait_phase : (failConfirmWait s).phase = s.phase := by
  unfold failConfirmWait
  try dsimp only
  repeat' split
  all_goals simp

@[simp] theorem failConfirmWait_wrst : (failConfirmWait s).wrst = s.wrst := by
  unfold failConfirmWait
  try dsimp only
  repeat' split
  all_goals simp

@[simp] theorem failConfirmWait_cfg : (failConfirmWait s).cfg = s.cfg := by
  unfold failConfirmWait
  try dsimp only
  repeat' split
  all_goals simp

@[simp] theorem failConfirmWait_loader : (failConfirmWait s).loader = s.loader := by
  unfold failConfirmWait
  try dsimp only
  repeat' split
  all_goals simp

@[simp] theorem failConfirmWait_pair : (failConfirmWait s).pair = s.pair := by
  unfold failConfirmWait
  try dsimp only
  repeat' split
  all_goals simp

@[simp] theorem failConfirmWait_apply : (failConfirmWait s).apply = s.apply := by
  unfold failConfirmWait
  try dsimp only
  repeat' split
  all_goals simp

@[simp] theorem failConfirmWait_tx : (failConfirmWait s).tx = s.tx := by
  unfold failConfirmWait
  try dsimp only
  repeat' split
  all_goals simp

@[simp] theorem failConfirmWait_mgmt : (failConfirmWait s).mgmt = s.mgmt := by
  unfold failConfirmWait
  try dsimp only
  repeat' split
  all_goals simp

@[simp] theorem failConfirmWait_rx : (failConfirmWait s).rx = s.rx := by
  unfold failConfirmWait
  try dsimp only
  repeat' split
  all_goals simp

/-! ### cancelReservation -/

@[simp] theorem cancelReservation_pending : (cancelReservation s).pending = s.pending := by
  unfold cancelReservation
  try dsimp only
  repeat' split
  all_goals simp

@[simp] theorem cancelReservation_phase : (cancelReservation s).phase = s.phase := by
  unfold cancelReservation
  try dsimp only
  repeat' split
  all_goals simp

@[simp] theorem cancelReservation_wrst : (cancelReservation s).wrst = s.wrst := by
  unfold cancelReservation
  try dsimp only
  repeat' split
  all_goals simp

@[simp] theorem cancelReservation_cfg : (cancelReservation s).cfg = s.cfg := by
  unfold cancelReservation
  try dsimp only
  repeat' split
  all_goals simp

@[simp] theorem cancelReservation_loader : (cancelReservation s).loader = s.loader := by
  unfold cancelReservation
  try dsimp only
  repeat' split
  all_goals simp

@[simp] theorem cancelReservation_pair : (cancelReservation s).pair = s.pair := by
  unfold cancelReservation
  try dsimp only
  repeat' split
  all_goals simp

@[simp] theorem cancelReservation_apply : (cancelReservation s).apply = s.apply := by
  unfold cancelReservation
  try dsimp only
  repeat' split
  all_goals simp

@[simp] theorem cancelReservation_tx : (cancelReservation s).tx = s.tx := by
  unfold cancelReservation
  try dsimp only
  repeat' split
  all_goals simp

@[simp] theorem cancelReservation_mgmt : (cancelReservation s).mgmt = s.mgmt := by
  unfold cancelReservation
  try dsimp only
  repeat' split
  all_goals simp

@[simp] theorem cancelReservation_rx : (cancelReservation s).rx = s.rx := by
  unfold cancelReservation
  try dsimp only
  repeat' split
  all_goals simp

/-! ### pauseWalker -/

@[simp] theorem pauseWalker_pending : (pauseWalker s).pending = s.pending := by
  unfold pauseWalker
  try dsimp only
  repeat' split
  all_goals simp

@[simp] theorem pauseWalker_phase : (pauseWalker s).phase = s.phase := by
  unfold pauseWalker
  try dsimp only
  repeat' split
  all_goals simp

@[simp] theorem pauseWalker_wrst : (pauseWalker s).wrst = s.wrst := by
  unfold pauseWalker
  try dsimp only
  repeat' split
  all_goals simp

@[simp] theorem pauseWalker_cfg : (pauseWalker s).cfg = s.cfg := by
  unfold pauseWalker
  try dsimp only
  repeat' split
  all_goals simp

@[simp] theorem pauseWalker_loader : (pauseWalker s).loader = s.loader := by
  unfold pauseWalker
  try dsimp only
  repeat' split
  all_goals simp

@[simp] theorem pauseWalker_pair : (pauseWalker s).pair = s.pair := by
  unfold pauseWalker
  try dsimp only
  repeat' split
  all_goals simp

@[simp] theorem pauseWalker_apply : (pauseWalker s).apply = s.apply := by
  unfold pauseWalker
  try dsimp only
  repeat' split
  all_goals simp

@[simp] theorem pauseWalker_tx : (pauseWalker s).tx = s.tx := by
  unfold pauseWalker
  try dsimp only
  repeat' split
  all_goals simp

@[simp] theorem pauseWalker_mgmt : (pauseWalker s).mgmt = s.mgmt := by
  unfold pauseWalker
  try dsimp only
  repeat' split
  all_goals simp

@[simp] theorem pauseWalker_rx : (pauseWalker s).rx = s.rx := by
  unfold pauseWalker
  try dsimp only
  repeat' split
  all_goals simp

/-! ### askMarker -/

@[simp] theorem askMarker_pending (b : RecordBody) : (askMarker b s).pending = s.pending := by
  unfold askMarker
  try dsimp only
  repeat' split
  all_goals simp

@[simp] theorem askMarker_phase (b : RecordBody) : (askMarker b s).phase = s.phase := by
  unfold askMarker
  try dsimp only
  repeat' split
  all_goals simp

@[simp] theorem askMarker_wrst (b : RecordBody) : (askMarker b s).wrst = s.wrst := by
  unfold askMarker
  try dsimp only
  repeat' split
  all_goals simp

@[simp] theorem askMarker_cfg (b : RecordBody) : (askMarker b s).cfg = s.cfg := by
  unfold askMarker
  try dsimp only
  repeat' split
  all_goals simp

@[simp] theorem askMarker_loader (b : RecordBody) : (askMarker b s).loader = s.loader := by
  unfold askMarker
  try dsimp only
  repeat' split
  all_goals simp

@[simp] theorem askMarker_pair (b : RecordBody) : (askMarker b s).pair = s.pair := by
  unfold askMarker
  try dsimp only
  repeat' split
  all_goals simp

@[simp] theorem askMarker_apply (b : RecordBody) : (askMarker b s).apply = s.apply := by
  unfold askMarker
  try dsimp only
  repeat' split
  all_goals simp

@[simp] theorem askMarker_tx (b : RecordBody) : (askMarker b s).tx = s.tx := by
  unfold askMarker
  try dsimp only
  repeat' split
  all_goals simp

@[simp] theorem askMarker_mgmt (b : RecordBody) : (askMarker b s).mgmt = s.mgmt := by
  unfold askMarker
  try dsimp only
  repeat' split
  all_goals simp

@[simp] theorem askMarker_rx (b : RecordBody) : (askMarker b s).rx = s.rx := by
  unfold askMarker
  try dsimp only
  repeat' split
  all_goals simp

/-! ### walkerGoOn -/

@[simp] theorem walkerGoOn_pending : (walkerGoOn s).pending = s.pending := by
  unfold walkerGoOn
  try dsimp only
  repeat' split
  all_goals simp

@[simp] theorem walkerGoOn_phase : (walkerGoOn s).phase = s.phase := by
  unfold walkerGoOn
  try dsimp only
  repeat' split
  all_goals simp

@[simp] theorem walkerGoOn_wrst : (walkerGoOn s).wrst = s.wrst := by
  unfold walkerGoOn
  try dsimp only
  repeat' split
  all_goals simp

@[simp] theorem walkerGoOn_cfg : (walkerGoOn s).cfg = s.cfg := by
  unfold walkerGoOn
  try dsimp only
  repeat' split
  all_goals simp

@[simp] theorem walkerGoOn_loader : (walkerGoOn s).loader = s.loader := by
  unfold walkerGoOn
  try dsimp only
  repeat' split
  all_goals simp

@[simp] theorem walkerGoOn_pair : (walkerGoOn s).pair = s.pair := by
  unfold walkerGoOn
  try dsimp only
  repeat' split
  all_goals simp

@[simp] theorem walkerGoOn_apply : (walkerGoOn s).apply = s.apply := by
  unfold walkerGoOn
  try dsimp only
  repeat' split
  all_goals simp

@[simp] theorem walkerGoOn_tx : (walkerGoOn s).tx = s.tx := by
  unfold walkerGoOn
  try dsimp only
  repeat' split
  all_goals simp

@[simp] theorem walkerGoOn_mgmt : (walkerGoOn s).mgmt = s.mgmt := by
  unfold walkerGoOn
  try dsimp only
  repeat' split
  all_goals simp

@[simp] theorem walkerGoOn_rx : (walkerGoOn s).rx = s.rx := by
  unfold walkerGoOn
  try dsimp only
  repeat' split
  all_goals simp

/-! ### resumeWalker -/

@[simp] theorem resumeWalker_pending : (resumeWalker s).pending = s.pending := by
  unfold resumeWalker
  try dsimp only
  repeat' split
  all_goals simp

@[simp] theorem resumeWalker_phase : (resumeWalker s).phase = s.phase := by
  unfold resumeWalker
  try dsimp only
  repeat' split
  all_goals simp

@[simp] theorem resumeWalker_wrst : (resumeWalker s).wrst = s.wrst := by
  unfold resumeWalker
  try dsimp only
  repeat' split
  all_goals simp

@[simp] theorem resumeWalker_cfg : (resumeWalker s).cfg = s.cfg := by
  unfold resumeWalker
  try dsimp only
  repeat' split
  all_goals simp

@[simp] theorem resumeWalker_loader : (resumeWalker s).loader = s.loader := by
  unfold resumeWalker
  try dsimp only
  repeat' split
  all_goals simp

@[simp] theorem resumeWalker_pair : (resumeWalker s).pair = s.pair := by
  unfold resumeWalker
  try dsimp only
  repeat' split
  all_goals simp

@[simp] theorem resumeWalker_apply : (resumeWalker s).apply = s.apply := by
  unfold resumeWalker
  try dsimp only
  repeat' split
  all_goals simp

@[simp] theorem resumeWalker_tx : (resumeWalker s).tx = s.tx := by
  unfold resumeWalker
  try dsimp only
  repeat' split
  all_goals simp

@[simp] theorem resumeWalker_mgmt : (resumeWalker s).mgmt = s.mgmt := by
  unfold resumeWalker
  try dsimp only
  repeat' split
  all_goals simp

@[simp] theorem resumeWalker_rx : (resumeWalker s).rx = s.rx := by
  unfold resumeWalker
  try dsimp only
  repeat' split
  all_goals simp

/-! ### discard -/

@[simp] theorem discard_pending (k : Bool) : (discard k s).pending = s.pending := by
  unfold discard
  try dsimp only
  repeat' split
  all_goals simp

@[simp] theorem discard_phase (k : Bool) : (discard k s).phase = s.phase := by
  unfold discard
  try dsimp only
  repeat' split
  all_goals simp

@[simp] theorem discard_wrst (k : Bool) : (discard k s).wrst = s.wrst := by
  unfold discard
  try dsimp only
  repeat' split
  all_goals simp

@[simp] theorem discard_cfg (k : Bool) : (discard k s).cfg = s.cfg := by
  unfold discard
  try dsimp only
  repeat' split
  all_goals simp

@[simp] theorem discard_loader (k : Bool) : (discard k s).loader = s.loader := by
  unfold discard
  try dsimp only
  repeat' split
  all_goals simp

@[simp] theorem discard_pair (k : Bool) : (discard k s).pair = s.pair := by
  unfold discard
  try dsimp only
  repeat' split
  all_goals simp

@[simp] theorem discard_apply (k : Bool) : (discard k s).apply = s.apply := by
  unfold discard
  try dsimp only
  repeat' split
  all_goals simp

@[simp] theorem discard_tx (k : Bool) : (discard k s).tx = s.tx := by
  unfold discard
  try dsimp only
  repeat' split
  all_goals simp

@[simp] theorem discard_mgmt (k : Bool) : (discard k s).mgmt = s.mgmt := by
  unfold discard
  try dsimp only
  repeat' split
  all_goals simp

@[simp] theorem discard_rx (k : Bool) : (discard k s).rx = s.rx := by
  unfold discard
  try dsimp only
  repeat' split
  all_goals simp

/-! ### beginFull -/

@[simp] theorem beginFull_pending : (beginFull s).pending = s.pending := by
  unfold beginFull
  try dsimp only
  repeat' split
  all_goals simp

@[simp] theorem beginFull_phase : (beginFull s).phase = s.phase := by
  unfold beginFull
  try dsimp only
  repeat' split
  all_goals simp

@[simp] theorem beginFull_wrst : (beginFull s).wrst = s.wrst := by
  unfold beginFull
  try dsimp only
  repeat' split
  all_goals simp

@[simp] theorem beginFull_cfg : (beginFull s).cfg = s.cfg := by
  unfold beginFull
  try dsimp only
  repeat' split
  all_goals simp

@[simp] theorem beginFull_loader : (beginFull s).loader = s.loader := by
  unfold beginFull
  try dsimp only
  repeat' split
  all_goals simp

@[simp] theorem beginFull_pair : (beginFull s).pair = s.pair := by
  unfold beginFull
  try dsimp only
  repeat' split
  all_goals simp

@[simp] theorem beginFull_apply : (beginFull s).apply = s.apply := by
  unfold beginFull
  try dsimp only
  repeat' split
  all_goals simp

@[simp] theorem beginFull_tx : (beginFull s).tx = s.tx := by
  unfold beginFull
  try dsimp only
  repeat' split
  all_goals simp

@[simp] theorem beginFull_mgmt : (beginFull s).mgmt = s.mgmt := by
  unfold beginFull
  try dsimp only
  repeat' split
  all_goals simp

@[simp] theorem beginFull_rx : (beginFull s).rx = s.rx := by
  unfold beginFull
  try dsimp only
  repeat' split
  all_goals simp

/-! ### resyncStart -/

@[simp] theorem resyncStart_pending : (resyncStart s).pending = s.pending := by
  unfold resyncStart
  try dsimp only
  repeat' split
  all_goals simp

@[simp] theorem resyncStart_phase : (resyncStart s).phase = s.phase := by
  unfold resyncStart
  try dsimp only
  repeat' split
  all_goals simp

@[simp] theorem resyncStart_wrst : (resyncStart s).wrst = s.wrst := by
  unfold resyncStart
  try dsimp only
  repeat' split
  all_goals simp

@[simp] theorem resyncStart_cfg : (resyncStart s).cfg = s.cfg := by
  unfold resyncStart
  try dsimp only
  repeat' split
  all_goals simp

@[simp] theorem resyncStart_loader : (resyncStart s).loader = s.loader := by
  unfold resyncStart
  try dsimp only
  repeat' split
  all_goals simp

@[simp] theorem resyncStart_pair : (resyncStart s).pair = s.pair := by
  unfold resyncStart
  try dsimp only
  repeat' split
  all_goals simp

@[simp] theorem resyncStart_apply : (resyncStart s).apply = s.apply := by
  unfold resyncStart
  try dsimp only
  repeat' split
  all_goals simp

@[simp] theorem resyncStart_tx : (resyncStart s).tx = s.tx := by
  unfold resyncStart
  try dsimp only
  repeat' split
  all_goals simp

@[simp] theorem resyncStart_mgmt : (resyncStart s).mgmt = s.mgmt := by
  unfold resyncStart
  try dsimp only
  repeat' split
  all_goals simp

@[simp] theorem resyncStart_rx : (resyncStart s).rx = s.rx := by
  unfold resyncStart
  try dsimp only
  repeat' split
  all_goals simp

/-! ### spillCore -/

@[simp] theorem spillCore_pending : (spillCore s).pending = s.pending := by
  unfold spillCore
  try dsimp only
  repeat' split
  all_goals simp

@[simp] theorem spillCore_phase : (spillCore s).phase = s.phase := by
  unfold spillCore
  try dsimp only
  repeat' split
  all_goals simp

@[simp] theorem spillCore_wrst : (spillCore s).wrst = s.wrst := by
  unfold spillCore
  try dsimp only
  repeat' split
  all_goals simp

@[simp] theorem spillCore_cfg : (spillCore s).cfg = s.cfg := by
  unfold spillCore
  try dsimp only
  repeat' split
  all_goals simp

@[simp] theorem spillCore_loader : (spillCore s).loader = s.loader := by
  unfold spillCore
  try dsimp only
  repeat' split
  all_goals simp

@[simp] theorem spillCore_pair : (spillCore s).pair = s.pair := by
  unfold spillCore
  try dsimp only
  repeat' split
  all_goals simp

@[simp] theorem spillCore_apply : (spillCore s).apply = s.apply := by
  unfold spillCore
  try dsimp only
  repeat' split
  all_goals simp

@[simp] theorem spillCore_tx : (spillCore s).tx = s.tx := by
  unfold spillCore
  try dsimp only
  repeat' split
  all_goals simp

@[simp] theorem spillCore_mgmt : (spillCore s).mgmt = s.mgmt := by
  unfold spillCore
  try dsimp only
  repeat' split
  all_goals simp

@[simp] theorem spillCore_rx : (spillCore s).rx = s.rx := by
  unfold spillCore
  try dsimp only
  repeat' split
  all_goals simp

/-! ### resyncAfterSpill -/

@[simp] theorem resyncAfterSpill_pending : (resyncAfterSpill s).pending = s.pending := by
  unfold resyncAfterSpill
  try dsimp only
  repeat' split
  all_goals simp

@[simp] theorem resyncAfterSpill_phase : (resyncAfterSpill s).phase = s.phase := by
  unfold resyncAfterSpill
  try dsimp only
  repeat' split
  all_goals simp

@[simp] theorem resyncAfterSpill_wrst : (resyncAfterSpill s).wrst = s.wrst := by
  unfold resyncAfterSpill
  try dsimp only
  repeat' split
  all_goals simp

@[simp] theorem resyncAfterSpill_cfg : (resyncAfterSpill s).cfg = s.cfg := by
  unfold resyncAfterSpill
  try dsimp only
  repeat' split
  all_goals simp

@[simp] theorem resyncAfterSpill_loader : (resyncAfterSpill s).loader = s.loader := by
  unfold resyncAfterSpill
  try dsimp only
  repeat' split
  all_goals simp

@[simp] theorem resyncAfterSpill_pair : (resyncAfterSpill s).pair = s.pair := by
  unfold resyncAfterSpill
  try dsimp only
  repeat' split
  all_goals simp

@[simp] theorem resyncAfterSpill_apply : (resyncAfterSpill s).apply = s.apply := by
  unfold resyncAfterSpill
  try dsimp only
  repeat' split
  all_goals simp

@[simp] theorem resyncAfterSpill_tx : (resyncAfterSpill s).tx = s.tx := by
  unfold resyncAfterSpill
  try dsimp only
  repeat' split
  all_goals simp

@[simp] theorem resyncAfterSpill_mgmt : (resyncAfterSpill s).mgmt = s.mgmt := by
  unfold resyncAfterSpill
  try dsimp only
  repeat' split
  all_goals simp

@[simp] theorem resyncAfterSpill_rx : (resyncAfterSpill s).rx = s.rx := by
  unfold resyncAfterSpill
  try dsimp only
  repeat' split
  all_goals simp

/-! ### spill -/

@[simp] theorem spill_pending : (spill s).pending = s.pending := by
  unfold spill
  try dsimp only
  simp

@[simp] theorem spill_phase : (spill s).phase = s.phase := by
  unfold spill
  try dsimp only
  simp

@[simp] theorem spill_wrst : (spill s).wrst = s.wrst := by
  unfold spill
  try dsimp only
  simp

@[simp] theorem spill_cfg : (spill s).cfg = s.cfg := by
  unfold spill
  try dsimp only
  simp

@[simp] theorem spill_loader : (spill s).loader = s.loader := by
  unfold spill
  try dsimp only
  simp

@[simp] theorem spill_pair : (spill s).pair = s.pair := by
  unfold spill
  try dsimp only
  simp

@[simp] theorem spill_apply : (spill s).apply = s.apply := by
  unfold spill
  try dsimp only
  simp

@[simp] theorem spill_tx : (spill s).tx = s.tx := by
  unfold spill
  try dsimp only
  simp

@[simp] theorem spill_mgmt : (spill s).mgmt = s.mgmt := by
  unfold spill
  try dsimp only
  simp

@[simp] theorem spill_rx : (spill s).rx = s.rx := by
  unfold spill
  try dsimp only
  simp

/-! ### resyncComplete -/

@[simp] theorem resyncComplete_pending : (resyncComplete s).pending = s.pending := by
  unfold resyncComplete
  try dsimp only
  simp

@[simp] theorem resyncComplete_phase : (resyncComplete s).phase = s.phase := by
  unfold resyncComplete
  try dsimp only
  simp

@[simp] theorem resyncComplete_wrst : (resyncComplete s).wrst = s.wrst := by
  unfold resyncComplete
  try dsimp only
  simp

@[simp] theorem resyncComplete_cfg : (resyncComplete s).cfg = s.cfg := by
  unfold resyncComplete
  try dsimp only
  simp

@[simp] theorem resyncComplete_loader : (resyncComplete s).loader = s.loader := by
  unfold resyncComplete
  try dsimp only
  simp

@[simp] theorem resyncComplete_pair : (resyncComplete s).pair = s.pair := by
  unfold resyncComplete
  try dsimp only
  simp

@[simp] theorem resyncComplete_apply : (resyncComplete s).apply = s.apply := by
  unfold resyncComplete
  try dsimp only
  simp

@[simp] theorem resyncComplete_tx : (resyncComplete s).tx = s.tx := by
  unfold resyncComplete
  try dsimp only
  simp

@[simp] theorem resyncComplete_mgmt : (resyncComplete s).mgmt = s.mgmt := by
  unfold resyncComplete
  try dsimp only
  simp

@[simp] theorem resyncComplete_rx : (resyncComplete s).rx = s.rx := by
  unfold resyncComplete
  try dsimp only
  simp

/-! ### resyncAbandon -/

@[simp] theorem resyncAbandon_pending : (resyncAbandon s).pending = s.pending := by
  unfold resyncAbandon
  try dsimp only
  repeat' split
  all_goals simp

@[simp] theorem resyncAbandon_phase : (resyncAbandon s).phase = s.phase := by
  unfold resyncAbandon
  try dsimp only
  repeat' split
  all_goals simp

@[simp] theorem resyncAbandon_wrst : (resyncAbandon s).wrst = s.wrst := by
  unfold resyncAbandon
  try dsimp only
  repeat' split
  all_goals simp

@[simp] theorem resyncAbandon_cfg : (resyncAbandon s).cfg = s.cfg := by
  unfold resyncAbandon
  try dsimp only
  repeat' split
  all_goals simp

@[simp] theorem resyncAbandon_loader : (resyncAbandon s).loader = s.loader := by
  unfold resyncAbandon
  try dsimp only
  repeat' split
  all_goals simp

@[simp] theorem resyncAbandon_pair : (resyncAbandon s).pair = s.pair := by
  unfold resyncAbandon
  try dsimp only
  repeat' split
  all_goals simp

@[simp] theorem resyncAbandon_apply : (resyncAbandon s).apply = s.apply := by
  unfold resyncAbandon
  try dsimp only
  repeat' split
  all_goals simp

@[simp] theorem resyncAbandon_tx : (resyncAbandon s).tx = s.tx := by
  unfold resyncAbandon
  try dsimp only
  repeat' split
  all_goals simp

@[simp] theorem resyncAbandon_mgmt : (resyncAbandon s).mgmt = s.mgmt := by
  unfold resyncAbandon
  try dsimp only
  repeat' split
  all_goals simp

@[simp] theorem resyncAbandon_rx : (resyncAbandon s).rx = s.rx := by
  unfold resyncAbandon
  try dsimp only
  repeat' split
  all_goals simp

/-! ### askAck -/

@[simp] theorem askAck_pending : (askAck s).pending = s.pending := by
  unfold askAck
  try dsimp only
  repeat' split
  all_goals simp

@[simp] theorem askAck_phase : (askAck s).phase = s.phase := by
  unfold askAck
  try dsimp only
  repeat' split
  all_goals simp

@[simp] theorem askAck_wrst : (askAck s).wrst = s.wrst := by
  unfold askAck
  try dsimp only
  repeat' split
  all_goals simp

@[simp] theorem askAck_cfg : (askAck s).cfg = s.cfg := by
  unfold askAck
  try dsimp only
  repeat' split
  all_goals simp

@[simp] theorem askAck_loader : (askAck s).loader = s.loader := by
  unfold askAck
  try dsimp only
  repeat' split
  all_goals simp

@[simp] theorem askAck_rx : (askAck s).rx = s.rx := by
  unfold askAck
  try dsimp only
  repeat' split
  all_goals simp

/-! ### endCommand -/

@[simp] theorem endCommand_pending (st : CmdState) (r : Reason) (d : Detail) :
    (endCommand st r d s).pending = s.pending := by
  unfold endCommand
  try dsimp only
  simp

@[simp] theorem endCommand_phase (st : CmdState) (r : Reason) (d : Detail) :
    (endCommand st r d s).phase = s.phase := by
  unfold endCommand
  try dsimp only
  simp

@[simp] theorem endCommand_wrst (st : CmdState) (r : Reason) (d : Detail) : (endCommand st r d s).wrst = s.wrst := by
  unfold endCommand
  try dsimp only
  simp

@[simp] theorem endCommand_cfg (st : CmdState) (r : Reason) (d : Detail) : (endCommand st r d s).cfg = s.cfg := by
  unfold endCommand
  try dsimp only
  simp

@[simp] theorem endCommand_loader (st : CmdState) (r : Reason) (d : Detail) :
    (endCommand st r d s).loader = s.loader := by
  unfold endCommand
  try dsimp only
  simp

@[simp] theorem endCommand_rx (st : CmdState) (r : Reason) (d : Detail) : (endCommand st r d s).rx = s.rx := by
  unfold endCommand
  try dsimp only
  simp

/-! ### cancelPromote -/

@[simp] theorem cancelPromote_pending : (cancelPromote s).pending = s.pending := by
  unfold cancelPromote
  try dsimp only
  repeat' split
  all_goals simp

@[simp] theorem cancelPromote_phase : (cancelPromote s).phase = s.phase := by
  unfold cancelPromote
  try dsimp only
  repeat' split
  all_goals simp

@[simp] theorem cancelPromote_wrst : (cancelPromote s).wrst = s.wrst := by
  unfold cancelPromote
  try dsimp only
  repeat' split
  all_goals simp

@[simp] theorem cancelPromote_cfg : (cancelPromote s).cfg = s.cfg := by
  unfold cancelPromote
  try dsimp only
  repeat' split
  all_goals simp

@[simp] theorem cancelPromote_loader : (cancelPromote s).loader = s.loader := by
  unfold cancelPromote
  try dsimp only
  repeat' split
  all_goals simp

@[simp] theorem cancelPromote_rx : (cancelPromote s).rx = s.rx := by
  unfold cancelPromote
  try dsimp only
  repeat' split
  all_goals simp

/-! ### leaveUpCore -/

@[simp] theorem leaveUpCore_pending (l : LinkState) : (leaveUpCore l s).pending = s.pending := by
  unfold leaveUpCore
  try dsimp only
  repeat' split
  all_goals simp

@[simp] theorem leaveUpCore_phase (l : LinkState) : (leaveUpCore l s).phase = s.phase := by
  unfold leaveUpCore
  try dsimp only
  repeat' split
  all_goals simp

@[simp] theorem leaveUpCore_wrst (l : LinkState) : (leaveUpCore l s).wrst = s.wrst := by
  unfold leaveUpCore
  try dsimp only
  repeat' split
  all_goals simp

@[simp] theorem leaveUpCore_cfg (l : LinkState) : (leaveUpCore l s).cfg = s.cfg := by
  unfold leaveUpCore
  try dsimp only
  repeat' split
  all_goals simp

@[simp] theorem leaveUpCore_loader (l : LinkState) : (leaveUpCore l s).loader = s.loader := by
  unfold leaveUpCore
  try dsimp only
  repeat' split
  all_goals simp

@[simp] theorem leaveUpCore_rx (l : LinkState) : (leaveUpCore l s).rx = s.rx := by
  unfold leaveUpCore
  try dsimp only
  repeat' split
  all_goals simp

/-! ### leaveActive -/

@[simp] theorem leaveActive_pending : (leaveActive s).pending = s.pending := by
  unfold leaveActive
  try dsimp only
  simp

@[simp] theorem leaveActive_phase : (leaveActive s).phase = s.phase := by
  unfold leaveActive
  try dsimp only
  simp

@[simp] theorem leaveActive_wrst : (leaveActive s).wrst = s.wrst := by
  unfold leaveActive
  try dsimp only
  simp

@[simp] theorem leaveActive_cfg : (leaveActive s).cfg = s.cfg := by
  unfold leaveActive
  try dsimp only
  simp

@[simp] theorem leaveActive_loader : (leaveActive s).loader = s.loader := by
  unfold leaveActive
  try dsimp only
  simp

@[simp] theorem leaveActive_rx : (leaveActive s).rx = s.rx := by
  unfold leaveActive
  try dsimp only
  simp

/-! ### leaveRole -/

@[simp] theorem leaveRole_pending : (leaveRole s).pending = s.pending := by
  unfold leaveRole
  try dsimp only
  repeat' split
  all_goals simp

@[simp] theorem leaveRole_phase : (leaveRole s).phase = s.phase := by
  unfold leaveRole
  try dsimp only
  repeat' split
  all_goals simp

@[simp] theorem leaveRole_wrst : (leaveRole s).wrst = s.wrst := by
  unfold leaveRole
  try dsimp only
  repeat' split
  all_goals simp

@[simp] theorem leaveRole_cfg : (leaveRole s).cfg = s.cfg := by
  unfold leaveRole
  try dsimp only
  repeat' split
  all_goals simp

@[simp] theorem leaveRole_loader : (leaveRole s).loader = s.loader := by
  unfold leaveRole
  try dsimp only
  repeat' split
  all_goals simp

@[simp] theorem leaveRole_rx : (leaveRole s).rx = s.rx := by
  unfold leaveRole
  try dsimp only
  repeat' split
  all_goals simp

/-! ### roleLink -/

@[simp] theorem roleLink_pending : (roleLink s).pending = s.pending := by
  unfold roleLink
  try dsimp only
  repeat' split
  all_goals simp

@[simp] theorem roleLink_phase : (roleLink s).phase = s.phase := by
  unfold roleLink
  try dsimp only
  repeat' split
  all_goals simp

@[simp] theorem roleLink_wrst : (roleLink s).wrst = s.wrst := by
  unfold roleLink
  try dsimp only
  repeat' split
  all_goals simp

@[simp] theorem roleLink_cfg : (roleLink s).cfg = s.cfg := by
  unfold roleLink
  try dsimp only
  repeat' split
  all_goals simp

@[simp] theorem roleLink_loader : (roleLink s).loader = s.loader := by
  unfold roleLink
  try dsimp only
  repeat' split
  all_goals simp

@[simp] theorem roleLink_rx : (roleLink s).rx = s.rx := by
  unfold roleLink
  try dsimp only
  repeat' split
  all_goals simp

/-! ### changeRole -/

@[simp] theorem changeRole_pending (r : Role) : (changeRole r s).pending = s.pending := by
  unfold changeRole
  try dsimp only
  simp

@[simp] theorem changeRole_phase (r : Role) : (changeRole r s).phase = s.phase := by
  unfold changeRole
  try dsimp only
  simp

@[simp] theorem changeRole_wrst (r : Role) : (changeRole r s).wrst = s.wrst := by
  unfold changeRole
  try dsimp only
  simp

@[simp] theorem changeRole_cfg (r : Role) : (changeRole r s).cfg = s.cfg := by
  unfold changeRole
  try dsimp only
  simp

@[simp] theorem changeRole_loader (r : Role) : (changeRole r s).loader = s.loader := by
  unfold changeRole
  try dsimp only
  simp

@[simp] theorem changeRole_rx (r : Role) : (changeRole r s).rx = s.rx := by
  unfold changeRole
  try dsimp only
  simp

/-! ### promote -/

@[simp] theorem promote_pending : (promote s).pending = s.pending := by
  unfold promote
  try dsimp only
  simp

@[simp] theorem promote_phase : (promote s).phase = s.phase := by
  unfold promote
  try dsimp only
  simp

@[simp] theorem promote_wrst : (promote s).wrst = s.wrst := by
  unfold promote
  try dsimp only
  simp

@[simp] theorem promote_cfg : (promote s).cfg = s.cfg := by
  unfold promote
  try dsimp only
  simp

@[simp] theorem promote_loader : (promote s).loader = s.loader := by
  unfold promote
  try dsimp only
  simp

@[simp] theorem promote_rx : (promote s).rx = s.rx := by
  unfold promote
  try dsimp only
  simp

/-! ### takeHandoverRole -/

@[simp] theorem takeHandoverRole_pending : (takeHandoverRole s).pending = s.pending := by
  unfold takeHandoverRole
  try dsimp only
  repeat' split
  all_goals simp

@[simp] theorem takeHandoverRole_phase : (takeHandoverRole s).phase = s.phase := by
  unfold takeHandoverRole
  try dsimp only
  repeat' split
  all_goals simp

@[simp] theorem takeHandoverRole_wrst : (takeHandoverRole s).wrst = s.wrst := by
  unfold takeHandoverRole
  try dsimp only
  repeat' split
  all_goals simp

@[simp] theorem takeHandoverRole_cfg : (takeHandoverRole s).cfg = s.cfg := by
  unfold takeHandoverRole
  try dsimp only
  repeat' split
  all_goals simp

@[simp] theorem takeHandoverRole_loader : (takeHandoverRole s).loader = s.loader := by
  unfold takeHandoverRole
  try dsimp only
  repeat' split
  all_goals simp

@[simp] theorem takeHandoverRole_rx : (takeHandoverRole s).rx = s.rx := by
  unfold takeHandoverRole
  try dsimp only
  repeat' split
  all_goals simp

/-! ### handoverComplete -/

@[simp] theorem handoverComplete_pending (o : Detail) (e q : Half) :
    (handoverComplete o e q s).pending = s.pending := by
  unfold handoverComplete
  try dsimp only
  simp

@[simp] theorem handoverComplete_phase (o : Detail) (e q : Half) : (handoverComplete o e q s).phase = s.phase := by
  unfold handoverComplete
  try dsimp only
  simp

@[simp] theorem handoverComplete_wrst (o : Detail) (e q : Half) : (handoverComplete o e q s).wrst = s.wrst := by
  unfold handoverComplete
  try dsimp only
  simp

@[simp] theorem handoverComplete_cfg (o : Detail) (e q : Half) : (handoverComplete o e q s).cfg = s.cfg := by
  unfold handoverComplete
  try dsimp only
  simp

@[simp] theorem handoverComplete_loader (o : Detail) (e q : Half) : (handoverComplete o e q s).loader = s.loader := by
  unfold handoverComplete
  try dsimp only
  simp

@[simp] theorem handoverComplete_rx (o : Detail) (e q : Half) : (handoverComplete o e q s).rx = s.rx := by
  unfold handoverComplete
  try dsimp only
  simp

/-! ### handoverCancel -/

@[simp] theorem handoverCancel_pending (r : Reason) : (handoverCancel r s).pending = s.pending := by
  unfold handoverCancel
  try dsimp only
  simp

@[simp] theorem handoverCancel_phase (r : Reason) : (handoverCancel r s).phase = s.phase := by
  unfold handoverCancel
  try dsimp only
  simp

@[simp] theorem handoverCancel_wrst (r : Reason) : (handoverCancel r s).wrst = s.wrst := by
  unfold handoverCancel
  try dsimp only
  simp

@[simp] theorem handoverCancel_cfg (r : Reason) : (handoverCancel r s).cfg = s.cfg := by
  unfold handoverCancel
  try dsimp only
  simp

@[simp] theorem handoverCancel_loader (r : Reason) : (handoverCancel r s).loader = s.loader := by
  unfold handoverCancel
  try dsimp only
  simp

@[simp] theorem handoverCancel_rx (r : Reason) : (handoverCancel r s).rx = s.rx := by
  unfold handoverCancel
  try dsimp only
  simp

/-! ### handoverOffUp -/

@[simp] theorem handoverOffUp_pending : (handoverOffUp s).pending = s.pending := by
  unfold handoverOffUp
  try dsimp only
  repeat' split
  all_goals simp

@[simp] theorem handoverOffUp_phase : (handoverOffUp s).phase = s.phase := by
  unfold handoverOffUp
  try dsimp only
  repeat' split
  all_goals simp

@[simp] theorem handoverOffUp_wrst : (handoverOffUp s).wrst = s.wrst := by
  unfold handoverOffUp
  try dsimp only
  repeat' split
  all_goals simp

@[simp] theorem handoverOffUp_cfg : (handoverOffUp s).cfg = s.cfg := by
  unfold handoverOffUp
  try dsimp only
  repeat' split
  all_goals simp

@[simp] theorem handoverOffUp_loader : (handoverOffUp s).loader = s.loader := by
  unfold handoverOffUp
  try dsimp only
  repeat' split
  all_goals simp

@[simp] theorem handoverOffUp_rx : (handoverOffUp s).rx = s.rx := by
  unfold handoverOffUp
  try dsimp only
  repeat' split
  all_goals simp

/-! ### leaveUp -/

@[simp] theorem leaveUp_pending (l : LinkState) : (leaveUp l s).pending = s.pending := by
  unfold leaveUp
  try dsimp only
  repeat' split
  all_goals simp

@[simp] theorem leaveUp_phase (l : LinkState) : (leaveUp l s).phase = s.phase := by
  unfold leaveUp
  try dsimp only
  repeat' split
  all_goals simp

@[simp] theorem leaveUp_wrst (l : LinkState) : (leaveUp l s).wrst = s.wrst := by
  unfold leaveUp
  try dsimp only
  repeat' split
  all_goals simp

@[simp] theorem leaveUp_cfg (l : LinkState) : (leaveUp l s).cfg = s.cfg := by
  unfold leaveUp
  try dsimp only
  repeat' split
  all_goals simp

@[simp] theorem leaveUp_loader (l : LinkState) : (leaveUp l s).loader = s.loader := by
  unfold leaveUp
  try dsimp only
  repeat' split
  all_goals simp

@[simp] theorem leaveUp_rx (l : LinkState) : (leaveUp l s).rx = s.rx := by
  unfold leaveUp
  try dsimp only
  repeat' split
  all_goals simp

/-! ### protocolFault -/

@[simp] theorem protocolFault_pending : (protocolFault s).pending = s.pending := by
  unfold protocolFault
  try dsimp only
  simp

@[simp] theorem protocolFault_phase : (protocolFault s).phase = s.phase := by
  unfold protocolFault
  try dsimp only
  simp

@[simp] theorem protocolFault_wrst : (protocolFault s).wrst = s.wrst := by
  unfold protocolFault
  try dsimp only
  simp

@[simp] theorem protocolFault_cfg : (protocolFault s).cfg = s.cfg := by
  unfold protocolFault
  try dsimp only
  simp

@[simp] theorem protocolFault_loader : (protocolFault s).loader = s.loader := by
  unfold protocolFault
  try dsimp only
  simp

@[simp] theorem protocolFault_rx : (protocolFault s).rx = s.rx := by
  unfold protocolFault
  try dsimp only
  simp

/-! ### reportEnd -/

@[simp] theorem reportEnd_pending (rs : List Rec) : (reportEnd rs s).pending = s.pending := by
  unfold reportEnd
  try dsimp only
  repeat' split
  all_goals simp

@[simp] theorem reportEnd_phase (rs : List Rec) : (reportEnd rs s).phase = s.phase := by
  unfold reportEnd
  try dsimp only
  repeat' split
  all_goals simp

@[simp] theorem reportEnd_wrst (rs : List Rec) : (reportEnd rs s).wrst = s.wrst := by
  unfold reportEnd
  try dsimp only
  repeat' split
  all_goals simp

@[simp] theorem reportEnd_cfg (rs : List Rec) : (reportEnd rs s).cfg = s.cfg := by
  unfold reportEnd
  try dsimp only
  repeat' split
  all_goals simp

@[simp] theorem reportEnd_loader (rs : List Rec) : (reportEnd rs s).loader = s.loader := by
  unfold reportEnd
  try dsimp only
  repeat' split
  all_goals simp

@[simp] theorem reportEnd_rx (rs : List Rec) : (reportEnd rs s).rx = s.rx := by
  unfold reportEnd
  try dsimp only
  repeat' split
  all_goals simp

/-! ### reportHandover -/

@[simp] theorem reportHandover_pending (rs : List Rec) : (reportHandover rs s).pending = s.pending := by
  unfold reportHandover
  try dsimp only
  repeat' split
  all_goals simp

@[simp] theorem reportHandover_phase (rs : List Rec) : (reportHandover rs s).phase = s.phase := by
  unfold reportHandover
  try dsimp only
  repeat' split
  all_goals simp

@[simp] theorem reportHandover_wrst (rs : List Rec) : (reportHandover rs s).wrst = s.wrst := by
  unfold reportHandover
  try dsimp only
  repeat' split
  all_goals simp

@[simp] theorem reportHandover_cfg (rs : List Rec) : (reportHandover rs s).cfg = s.cfg := by
  unfold reportHandover
  try dsimp only
  repeat' split
  all_goals simp

@[simp] theorem reportHandover_loader (rs : List Rec) : (reportHandover rs s).loader = s.loader := by
  unfold reportHandover
  try dsimp only
  repeat' split
  all_goals simp

@[simp] theorem reportHandover_rx (rs : List Rec) : (reportHandover rs s).rx = s.rx := by
  unfold reportHandover
  try dsimp only
  repeat' split
  all_goals simp

/-! ### removeBehind -/

@[simp] theorem removeBehind_pending (n : Half) : (removeBehind n s).pending = s.pending := by
  unfold removeBehind
  try dsimp only
  repeat' split
  all_goals simp

@[simp] theorem removeBehind_phase (n : Half) : (removeBehind n s).phase = s.phase := by
  unfold removeBehind
  try dsimp only
  repeat' split
  all_goals simp

@[simp] theorem removeBehind_wrst (n : Half) : (removeBehind n s).wrst = s.wrst := by
  unfold removeBehind
  try dsimp only
  repeat' split
  all_goals simp

@[simp] theorem removeBehind_cfg (n : Half) : (removeBehind n s).cfg = s.cfg := by
  unfold removeBehind
  try dsimp only
  repeat' split
  all_goals simp

@[simp] theorem removeBehind_loader (n : Half) : (removeBehind n s).loader = s.loader := by
  unfold removeBehind
  try dsimp only
  repeat' split
  all_goals simp

@[simp] theorem removeBehind_rx (n : Half) : (removeBehind n s).rx = s.rx := by
  unfold removeBehind
  try dsimp only
  repeat' split
  all_goals simp

/-! ### takeAck -/

@[simp] theorem takeAck_pending (n : Half) : (takeAck n s).pending = s.pending := by
  unfold takeAck
  try dsimp only
  repeat' split
  all_goals simp

@[simp] theorem takeAck_phase (n : Half) : (takeAck n s).phase = s.phase := by
  unfold takeAck
  try dsimp only
  repeat' split
  all_goals simp

@[simp] theorem takeAck_wrst (n : Half) : (takeAck n s).wrst = s.wrst := by
  unfold takeAck
  try dsimp only
  repeat' split
  all_goals simp

@[simp] theorem takeAck_cfg (n : Half) : (takeAck n s).cfg = s.cfg := by
  unfold takeAck
  try dsimp only
  repeat' split
  all_goals simp

@[simp] theorem takeAck_loader (n : Half) : (takeAck n s).loader = s.loader := by
  unfold takeAck
  try dsimp only
  repeat' split
  all_goals simp

@[simp] theorem takeAck_rx (n : Half) : (takeAck n s).rx = s.rx := by
  unfold takeAck
  try dsimp only
  repeat' split
  all_goals simp

/-! ### takeNak -/

@[simp] theorem takeNak_pending (n : Half) : (takeNak n s).pending = s.pending := by
  unfold takeNak
  try dsimp only
  repeat' split
  all_goals simp

@[simp] theorem takeNak_phase (n : Half) : (takeNak n s).phase = s.phase := by
  unfold takeNak
  try dsimp only
  repeat' split
  all_goals simp

@[simp] theorem takeNak_wrst (n : Half) : (takeNak n s).wrst = s.wrst := by
  unfold takeNak
  try dsimp only
  repeat' split
  all_goals simp

@[simp] theorem takeNak_cfg (n : Half) : (takeNak n s).cfg = s.cfg := by
  unfold takeNak
  try dsimp only
  repeat' split
  all_goals simp

@[simp] theorem takeNak_loader (n : Half) : (takeNak n s).loader = s.loader := by
  unfold takeNak
  try dsimp only
  repeat' split
  all_goals simp

@[simp] theorem takeNak_rx (n : Half) : (takeNak n s).rx = s.rx := by
  unfold takeNak
  try dsimp only
  repeat' split
  all_goals simp

/-! ### resumeDecision -/

@[simp] theorem resumeDecision_pending : (resumeDecision s).pending = s.pending := by
  unfold resumeDecision
  try dsimp only
  repeat' split
  all_goals simp

@[simp] theorem resumeDecision_phase : (resumeDecision s).phase = s.phase := by
  unfold resumeDecision
  try dsimp only
  repeat' split
  all_goals simp

@[simp] theorem resumeDecision_wrst : (resumeDecision s).wrst = s.wrst := by
  unfold resumeDecision
  try dsimp only
  repeat' split
  all_goals simp

@[simp] theorem resumeDecision_cfg : (resumeDecision s).cfg = s.cfg := by
  unfold resumeDecision
  try dsimp only
  repeat' split
  all_goals simp

@[simp] theorem resumeDecision_loader : (resumeDecision s).loader = s.loader := by
  unfold resumeDecision
  try dsimp only
  repeat' split
  all_goals simp

@[simp] theorem resumeDecision_rx : (resumeDecision s).rx = s.rx := by
  unfold resumeDecision
  try dsimp only
  repeat' split
  all_goals simp

/-! ### enterUp -/

@[simp] theorem enterUp_pending : (enterUp s).pending = s.pending := by
  unfold enterUp
  try dsimp only
  repeat' split
  all_goals simp

@[simp] theorem enterUp_phase : (enterUp s).phase = s.phase := by
  unfold enterUp
  try dsimp only
  repeat' split
  all_goals simp

@[simp] theorem enterUp_wrst : (enterUp s).wrst = s.wrst := by
  unfold enterUp
  try dsimp only
  repeat' split
  all_goals simp

@[simp] theorem enterUp_cfg : (enterUp s).cfg = s.cfg := by
  unfold enterUp
  try dsimp only
  repeat' split
  all_goals simp

@[simp] theorem enterUp_loader : (enterUp s).loader = s.loader := by
  unfold enterUp
  try dsimp only
  repeat' split
  all_goals simp

@[simp] theorem enterUp_rx : (enterUp s).rx = s.rx := by
  unfold enterUp
  try dsimp only
  repeat' split
  all_goals simp

/-! ### checkHandshake -/

@[simp] theorem checkHandshake_pending (d : Half) (r : Role) : (checkHandshake d r s).pending = s.pending := by
  unfold checkHandshake
  try dsimp only
  repeat' split
  all_goals simp

@[simp] theorem checkHandshake_phase (d : Half) (r : Role) : (checkHandshake d r s).phase = s.phase := by
  unfold checkHandshake
  try dsimp only
  repeat' split
  all_goals simp

@[simp] theorem checkHandshake_wrst (d : Half) (r : Role) : (checkHandshake d r s).wrst = s.wrst := by
  unfold checkHandshake
  try dsimp only
  repeat' split
  all_goals simp

@[simp] theorem checkHandshake_cfg (d : Half) (r : Role) : (checkHandshake d r s).cfg = s.cfg := by
  unfold checkHandshake
  try dsimp only
  repeat' split
  all_goals simp

@[simp] theorem checkHandshake_loader (d : Half) (r : Role) : (checkHandshake d r s).loader = s.loader := by
  unfold checkHandshake
  try dsimp only
  repeat' split
  all_goals simp

@[simp] theorem checkHandshake_rx (d : Half) (r : Role) : (checkHandshake d r s).rx = s.rx := by
  unfold checkHandshake
  try dsimp only
  repeat' split
  all_goals simp

/-! ### linkOff -/

@[simp] theorem linkOff_pending : (linkOff s).pending = s.pending := by
  unfold linkOff
  try dsimp only
  repeat' split
  all_goals simp

@[simp] theorem linkOff_phase : (linkOff s).phase = s.phase := by
  unfold linkOff
  try dsimp only
  repeat' split
  all_goals simp

@[simp] theorem linkOff_wrst : (linkOff s).wrst = s.wrst := by
  unfold linkOff
  try dsimp only
  repeat' split
  all_goals simp

@[simp] theorem linkOff_cfg : (linkOff s).cfg = s.cfg := by
  unfold linkOff
  try dsimp only
  repeat' split
  all_goals simp

@[simp] theorem linkOff_loader : (linkOff s).loader = s.loader := by
  unfold linkOff
  try dsimp only
  repeat' split
  all_goals simp

@[simp] theorem linkOff_rx : (linkOff s).rx = s.rx := by
  unfold linkOff
  try dsimp only
  repeat' split
  all_goals simp

/-! ### disableLink -/

@[simp] theorem disableLink_pending : (disableLink s).pending = s.pending := by
  unfold disableLink
  try dsimp only
  simp

@[simp] theorem disableLink_phase : (disableLink s).phase = s.phase := by
  unfold disableLink
  try dsimp only
  simp

@[simp] theorem disableLink_wrst : (disableLink s).wrst = s.wrst := by
  unfold disableLink
  try dsimp only
  simp

@[simp] theorem disableLink_cfg : (disableLink s).cfg = s.cfg := by
  unfold disableLink
  try dsimp only
  simp

@[simp] theorem disableLink_loader : (disableLink s).loader = s.loader := by
  unfold disableLink
  try dsimp only
  simp

/-! ### enableLink -/

@[simp] theorem enableLink_pending : (enableLink s).pending = s.pending := by
  unfold enableLink
  try dsimp only
  simp

@[simp] theorem enableLink_phase : (enableLink s).phase = s.phase := by
  unfold enableLink
  try dsimp only
  simp

@[simp] theorem enableLink_wrst : (enableLink s).wrst = s.wrst := by
  unfold enableLink
  try dsimp only
  simp

@[simp] theorem enableLink_cfg : (enableLink s).cfg = s.cfg := by
  unfold enableLink
  try dsimp only
  simp

@[simp] theorem enableLink_loader : (enableLink s).loader = s.loader := by
  unfold enableLink
  try dsimp only
  simp

/-! ### followLinkControl -/

@[simp] theorem followLinkControl_pending (e : Bool) (r : LinkRate) :
    (followLinkControl e r s).pending = s.pending := by
  unfold followLinkControl
  try dsimp only
  repeat' split
  all_goals simp

@[simp] theorem followLinkControl_phase (e : Bool) (r : LinkRate) : (followLinkControl e r s).phase = s.phase := by
  unfold followLinkControl
  try dsimp only
  repeat' split
  all_goals simp

@[simp] theorem followLinkControl_wrst (e : Bool) (r : LinkRate) : (followLinkControl e r s).wrst = s.wrst := by
  unfold followLinkControl
  try dsimp only
  repeat' split
  all_goals simp

@[simp] theorem followLinkControl_cfg (e : Bool) (r : LinkRate) : (followLinkControl e r s).cfg = s.cfg := by
  unfold followLinkControl
  try dsimp only
  repeat' split
  all_goals simp

@[simp] theorem followLinkControl_loader (e : Bool) (r : LinkRate) : (followLinkControl e r s).loader = s.loader := by
  unfold followLinkControl
  try dsimp only
  repeat' split
  all_goals simp

/-! ### refuse -/

@[simp] theorem refuse_pending (q : HostReq) : (refuse q s).pending = s.pending := by
  unfold refuse
  try dsimp only
  simp

@[simp] theorem refuse_phase (q : HostReq) : (refuse q s).phase = s.phase := by
  unfold refuse
  try dsimp only
  simp

@[simp] theorem refuse_wrst (q : HostReq) : (refuse q s).wrst = s.wrst := by
  unfold refuse
  try dsimp only
  simp

@[simp] theorem refuse_cfg (q : HostReq) : (refuse q s).cfg = s.cfg := by
  unfold refuse
  try dsimp only
  simp

@[simp] theorem refuse_loader (q : HostReq) : (refuse q s).loader = s.loader := by
  unfold refuse
  try dsimp only
  simp

@[simp] theorem refuse_rx (q : HostReq) : (refuse q s).rx = s.rx := by
  unfold refuse
  try dsimp only
  simp

@[simp] theorem refuse_pair (q : HostReq) : (refuse q s).pair = s.pair := by
  unfold refuse
  try dsimp only
  simp

@[simp] theorem refuse_apply (q : HostReq) : (refuse q s).apply = s.apply := by
  unfold refuse
  try dsimp only
  simp

@[simp] theorem refuse_tx (q : HostReq) : (refuse q s).tx = s.tx := by
  unfold refuse
  try dsimp only
  simp

@[simp] theorem refuse_mgmt (q : HostReq) : (refuse q s).mgmt = s.mgmt := by
  unfold refuse
  try dsimp only
  simp

/-! ### askReservation -/

@[simp] theorem askReservation_pending (q : HostReq) (b : Bool) : (askReservation q b s).pending = s.pending := by
  unfold askReservation
  try dsimp only
  repeat' split
  all_goals simp

@[simp] theorem askReservation_phase (q : HostReq) (b : Bool) : (askReservation q b s).phase = s.phase := by
  unfold askReservation
  try dsimp only
  repeat' split
  all_goals simp

@[simp] theorem askReservation_wrst (q : HostReq) (b : Bool) : (askReservation q b s).wrst = s.wrst := by
  unfold askReservation
  try dsimp only
  repeat' split
  all_goals simp

@[simp] theorem askReservation_cfg (q : HostReq) (b : Bool) : (askReservation q b s).cfg = s.cfg := by
  unfold askReservation
  try dsimp only
  repeat' split
  all_goals simp

@[simp] theorem askReservation_loader (q : HostReq) (b : Bool) : (askReservation q b s).loader = s.loader := by
  unfold askReservation
  try dsimp only
  repeat' split
  all_goals simp

@[simp] theorem askReservation_rx (q : HostReq) (b : Bool) : (askReservation q b s).rx = s.rx := by
  unfold askReservation
  try dsimp only
  repeat' split
  all_goals simp

@[simp] theorem askReservation_pair (q : HostReq) (b : Bool) : (askReservation q b s).pair = s.pair := by
  unfold askReservation
  try dsimp only
  repeat' split
  all_goals simp

@[simp] theorem askReservation_apply (q : HostReq) (b : Bool) : (askReservation q b s).apply = s.apply := by
  unfold askReservation
  try dsimp only
  repeat' split
  all_goals simp

@[simp] theorem askReservation_tx (q : HostReq) (b : Bool) : (askReservation q b s).tx = s.tx := by
  unfold askReservation
  try dsimp only
  repeat' split
  all_goals simp

@[simp] theorem askReservation_mgmt (q : HostReq) (b : Bool) : (askReservation q b s).mgmt = s.mgmt := by
  unfold askReservation
  try dsimp only
  repeat' split
  all_goals simp

/-! ### acceptMirrored -/

@[simp] theorem acceptMirrored_pending (q : HostReq) (b : Bool) : (acceptMirrored q b s).pending = s.pending := by
  unfold acceptMirrored
  try dsimp only
  repeat' split
  all_goals simp

@[simp] theorem acceptMirrored_phase (q : HostReq) (b : Bool) : (acceptMirrored q b s).phase = s.phase := by
  unfold acceptMirrored
  try dsimp only
  repeat' split
  all_goals simp

@[simp] theorem acceptMirrored_wrst (q : HostReq) (b : Bool) : (acceptMirrored q b s).wrst = s.wrst := by
  unfold acceptMirrored
  try dsimp only
  repeat' split
  all_goals simp

@[simp] theorem acceptMirrored_cfg (q : HostReq) (b : Bool) : (acceptMirrored q b s).cfg = s.cfg := by
  unfold acceptMirrored
  try dsimp only
  repeat' split
  all_goals simp

@[simp] theorem acceptMirrored_loader (q : HostReq) (b : Bool) : (acceptMirrored q b s).loader = s.loader := by
  unfold acceptMirrored
  try dsimp only
  repeat' split
  all_goals simp

@[simp] theorem acceptMirrored_rx (q : HostReq) (b : Bool) : (acceptMirrored q b s).rx = s.rx := by
  unfold acceptMirrored
  try dsimp only
  repeat' split
  all_goals simp

@[simp] theorem acceptMirrored_pair (q : HostReq) (b : Bool) : (acceptMirrored q b s).pair = s.pair := by
  unfold acceptMirrored
  try dsimp only
  repeat' split
  all_goals simp

@[simp] theorem acceptMirrored_apply (q : HostReq) (b : Bool) : (acceptMirrored q b s).apply = s.apply := by
  unfold acceptMirrored
  try dsimp only
  repeat' split
  all_goals simp

@[simp] theorem acceptMirrored_tx (q : HostReq) (b : Bool) : (acceptMirrored q b s).tx = s.tx := by
  unfold acceptMirrored
  try dsimp only
  repeat' split
  all_goals simp

@[simp] theorem acceptMirrored_mgmt (q : HostReq) (b : Bool) : (acceptMirrored q b s).mgmt = s.mgmt := by
  unfold acceptMirrored
  try dsimp only
  repeat' split
  all_goals simp

/-! ### acceptRequest -/

@[simp] theorem acceptRequest_pending (q : HostReq) (b : Bool) : (acceptRequest q b s).pending = s.pending := by
  unfold acceptRequest
  try dsimp only
  repeat' split
  all_goals simp

@[simp] theorem acceptRequest_phase (q : HostReq) (b : Bool) : (acceptRequest q b s).phase = s.phase := by
  unfold acceptRequest
  try dsimp only
  repeat' split
  all_goals simp

@[simp] theorem acceptRequest_wrst (q : HostReq) (b : Bool) : (acceptRequest q b s).wrst = s.wrst := by
  unfold acceptRequest
  try dsimp only
  repeat' split
  all_goals simp

@[simp] theorem acceptRequest_cfg (q : HostReq) (b : Bool) : (acceptRequest q b s).cfg = s.cfg := by
  unfold acceptRequest
  try dsimp only
  repeat' split
  all_goals simp

@[simp] theorem acceptRequest_loader (q : HostReq) (b : Bool) : (acceptRequest q b s).loader = s.loader := by
  unfold acceptRequest
  try dsimp only
  repeat' split
  all_goals simp

@[simp] theorem acceptRequest_rx (q : HostReq) (b : Bool) : (acceptRequest q b s).rx = s.rx := by
  unfold acceptRequest
  try dsimp only
  repeat' split
  all_goals simp

@[simp] theorem acceptRequest_pair (q : HostReq) (b : Bool) : (acceptRequest q b s).pair = s.pair := by
  unfold acceptRequest
  try dsimp only
  repeat' split
  all_goals simp

@[simp] theorem acceptRequest_apply (q : HostReq) (b : Bool) : (acceptRequest q b s).apply = s.apply := by
  unfold acceptRequest
  try dsimp only
  repeat' split
  all_goals simp

@[simp] theorem acceptRequest_tx (q : HostReq) (b : Bool) : (acceptRequest q b s).tx = s.tx := by
  unfold acceptRequest
  try dsimp only
  repeat' split
  all_goals simp

@[simp] theorem acceptRequest_mgmt (q : HostReq) (b : Bool) : (acceptRequest q b s).mgmt = s.mgmt := by
  unfold acceptRequest
  try dsimp only
  repeat' split
  all_goals simp

/-! ### reclassify -/

@[simp] theorem reclassify_pending (q : HostReq) (b : Bool) : (reclassify q b s).pending = s.pending := by
  unfold reclassify
  try dsimp only
  simp

@[simp] theorem reclassify_phase (q : HostReq) (b : Bool) : (reclassify q b s).phase = s.phase := by
  unfold reclassify
  try dsimp only
  simp

@[simp] theorem reclassify_wrst (q : HostReq) (b : Bool) : (reclassify q b s).wrst = s.wrst := by
  unfold reclassify
  try dsimp only
  simp

@[simp] theorem reclassify_cfg (q : HostReq) (b : Bool) : (reclassify q b s).cfg = s.cfg := by
  unfold reclassify
  try dsimp only
  simp

@[simp] theorem reclassify_loader (q : HostReq) (b : Bool) : (reclassify q b s).loader = s.loader := by
  unfold reclassify
  try dsimp only
  simp

@[simp] theorem reclassify_rx (q : HostReq) (b : Bool) : (reclassify q b s).rx = s.rx := by
  unfold reclassify
  try dsimp only
  simp

@[simp] theorem reclassify_pair (q : HostReq) (b : Bool) : (reclassify q b s).pair = s.pair := by
  unfold reclassify
  try dsimp only
  simp

@[simp] theorem reclassify_apply (q : HostReq) (b : Bool) : (reclassify q b s).apply = s.apply := by
  unfold reclassify
  try dsimp only
  simp

@[simp] theorem reclassify_tx (q : HostReq) (b : Bool) : (reclassify q b s).tx = s.tx := by
  unfold reclassify
  try dsimp only
  simp

@[simp] theorem reclassify_mgmt (q : HostReq) (b : Bool) : (reclassify q b s).mgmt = s.mgmt := by
  unfold reclassify
  try dsimp only
  simp

/-! ### settleHold -/

@[simp] theorem settleHold_pending : (settleHold s).pending = s.pending := by
  unfold settleHold
  try dsimp only
  repeat' split
  all_goals simp

@[simp] theorem settleHold_phase : (settleHold s).phase = s.phase := by
  unfold settleHold
  try dsimp only
  repeat' split
  all_goals simp

@[simp] theorem settleHold_wrst : (settleHold s).wrst = s.wrst := by
  unfold settleHold
  try dsimp only
  repeat' split
  all_goals simp

@[simp] theorem settleHold_cfg : (settleHold s).cfg = s.cfg := by
  unfold settleHold
  try dsimp only
  repeat' split
  all_goals simp

@[simp] theorem settleHold_loader : (settleHold s).loader = s.loader := by
  unfold settleHold
  try dsimp only
  repeat' split
  all_goals simp

@[simp] theorem settleHold_rx : (settleHold s).rx = s.rx := by
  unfold settleHold
  try dsimp only
  repeat' split
  all_goals simp

@[simp] theorem settleHold_pair : (settleHold s).pair = s.pair := by
  unfold settleHold
  try dsimp only
  repeat' split
  all_goals simp

@[simp] theorem settleHold_apply : (settleHold s).apply = s.apply := by
  unfold settleHold
  try dsimp only
  repeat' split
  all_goals simp

@[simp] theorem settleHold_tx : (settleHold s).tx = s.tx := by
  unfold settleHold
  try dsimp only
  repeat' split
  all_goals simp

@[simp] theorem settleHold_mgmt : (settleHold s).mgmt = s.mgmt := by
  unfold settleHold
  try dsimp only
  repeat' split
  all_goals simp

/-! ### startHello -/

@[simp] theorem startHello_pending : (startHello s).pending = s.pending := by
  unfold startHello
  try dsimp only
  simp

@[simp] theorem startHello_phase : (startHello s).phase = s.phase := by
  unfold startHello
  try dsimp only
  simp

@[simp] theorem startHello_wrst : (startHello s).wrst = s.wrst := by
  unfold startHello
  try dsimp only
  simp

@[simp] theorem startHello_cfg : (startHello s).cfg = s.cfg := by
  unfold startHello
  try dsimp only
  simp

@[simp] theorem startHello_loader : (startHello s).loader = s.loader := by
  unfold startHello
  try dsimp only
  simp

@[simp] theorem startHello_rx : (startHello s).rx = s.rx := by
  unfold startHello
  try dsimp only
  simp

/-! ### startAck -/

@[simp] theorem startAck_pending : (startAck s).pending = s.pending := by
  unfold startAck
  try dsimp only
  simp

@[simp] theorem startAck_phase : (startAck s).phase = s.phase := by
  unfold startAck
  try dsimp only
  simp

@[simp] theorem startAck_wrst : (startAck s).wrst = s.wrst := by
  unfold startAck
  try dsimp only
  simp

@[simp] theorem startAck_cfg : (startAck s).cfg = s.cfg := by
  unfold startAck
  try dsimp only
  simp

@[simp] theorem startAck_loader : (startAck s).loader = s.loader := by
  unfold startAck
  try dsimp only
  simp

@[simp] theorem startAck_rx : (startAck s).rx = s.rx := by
  unfold startAck
  try dsimp only
  simp

/-! ### startRecord -/

@[simp] theorem startRecord_pending (r : Rec) : (startRecord r s).pending = s.pending := by
  unfold startRecord
  try dsimp only
  simp

@[simp] theorem startRecord_phase (r : Rec) : (startRecord r s).phase = s.phase := by
  unfold startRecord
  try dsimp only
  simp

@[simp] theorem startRecord_wrst (r : Rec) : (startRecord r s).wrst = s.wrst := by
  unfold startRecord
  try dsimp only
  simp

@[simp] theorem startRecord_cfg (r : Rec) : (startRecord r s).cfg = s.cfg := by
  unfold startRecord
  try dsimp only
  simp

@[simp] theorem startRecord_loader (r : Rec) : (startRecord r s).loader = s.loader := by
  unfold startRecord
  try dsimp only
  simp

@[simp] theorem startRecord_rx (r : Rec) : (startRecord r s).rx = s.rx := by
  unfold startRecord
  try dsimp only
  simp

/-! ### startPulse -/

@[simp] theorem startPulse_pending : (startPulse s).pending = s.pending := by
  unfold startPulse
  try dsimp only
  simp

@[simp] theorem startPulse_phase : (startPulse s).phase = s.phase := by
  unfold startPulse
  try dsimp only
  simp

@[simp] theorem startPulse_wrst : (startPulse s).wrst = s.wrst := by
  unfold startPulse
  try dsimp only
  simp

@[simp] theorem startPulse_cfg : (startPulse s).cfg = s.cfg := by
  unfold startPulse
  try dsimp only
  simp

@[simp] theorem startPulse_loader : (startPulse s).loader = s.loader := by
  unfold startPulse
  try dsimp only
  simp

@[simp] theorem startPulse_rx : (startPulse s).rx = s.rx := by
  unfold startPulse
  try dsimp only
  simp

/-! ### schedule -/

@[simp] theorem schedule_pending : (schedule s).pending = s.pending := by
  unfold schedule
  try dsimp only
  repeat' split
  all_goals simp

@[simp] theorem schedule_phase : (schedule s).phase = s.phase := by
  unfold schedule
  try dsimp only
  repeat' split
  all_goals simp

@[simp] theorem schedule_wrst : (schedule s).wrst = s.wrst := by
  unfold schedule
  try dsimp only
  repeat' split
  all_goals simp

@[simp] theorem schedule_cfg : (schedule s).cfg = s.cfg := by
  unfold schedule
  try dsimp only
  repeat' split
  all_goals simp

@[simp] theorem schedule_loader : (schedule s).loader = s.loader := by
  unfold schedule
  try dsimp only
  repeat' split
  all_goals simp

@[simp] theorem schedule_rx : (schedule s).rx = s.rx := by
  unfold schedule
  try dsimp only
  repeat' split
  all_goals simp

/-! ### finish -/

@[simp] theorem finish_pending : (finish s).pending = s.pending := by
  unfold finish
  try dsimp only
  simp

@[simp] theorem finish_phase : (finish s).phase = s.phase := by
  unfold finish
  try dsimp only
  simp

@[simp] theorem finish_wrst : (finish s).wrst = s.wrst := by
  unfold finish
  try dsimp only
  simp

@[simp] theorem finish_cfg : (finish s).cfg = s.cfg := by
  unfold finish
  try dsimp only
  simp

@[simp] theorem finish_loader : (finish s).loader = s.loader := by
  unfold finish
  try dsimp only
  simp

@[simp] theorem finish_rx : (finish s).rx = s.rx := by
  unfold finish
  try dsimp only
  simp

end Sys2Proof.Machine
end

