-- ==== Sys2Proof/Laws/Shared.lean ====
section
/-! SUPPORT. What each shared operation can do, said once: the cases a proof cites instead of unfolding it. -/

namespace Sys2Proof.Machine

variable (s : State)

/-! ### Host port and reservation -/

/-- A confirm wait ends with FAULT and CONFIRM_FAIL, or there is none and nothing changes (R148). -/
theorem failConfirmWait_cases :
    (isWithheld s = true ∧ failConfirmWait s = raise .confirmFail { s with
        host := { s.host with port := .idle, response := some .fault, confirmTimer := none }
        list := { s.list with records := clearWaiters s.list.records } })
    ∨ (isWithheld s = false ∧ failConfirmWait s = s) := by
  unfold failConfirmWait
  split
  · exact .inl ⟨‹_›, rfl⟩
  · exact .inr ⟨eq_false_of_ne_true ‹_›, rfl⟩

/-- A cancelled reservation condemns a forwarded CONFIRM write that is not condemned yet (R14, R149). -/
theorem cancelReservation_cases :
    (s.list.reserved = false ∧ cancelReservation s = s)
    ∨ (s.list.reserved = true ∧ ∃ q c, s.host.port = .forwarded q c false ∧ isMirrored q c = true
        ∧ c.policy = .confirm ∧ cancelReservation s = raise .confirmFail { s with
          list := { s.list with reserved := false }
          host := { s.host with port := .forwarded q c true } })
    ∨ (s.list.reserved = true ∧ cancelReservation s = { s with list := { s.list with reserved := false } }) := by
  unfold cancelReservation
  split
  · dsimp only
    split
    · split
      · rename_i q c hp hc
        simp only [Bool.and_eq_true, beq_iff_eq] at hc
        exact .inr (.inl ⟨‹_›, q, c, hp, hc.1, hc.2, rfl⟩)
      · exact .inr (.inr ⟨‹_›, rfl⟩)
    · exact .inr (.inr ⟨‹_›, rfl⟩)
  · exact .inl ⟨eq_false_of_ne_true ‹_›, rfl⟩

/-- After a cancellation no reservation is held (R14). -/
@[simp] theorem cancelReservation_reserved : (cancelReservation s).list.reserved = false := by
  rcases cancelReservation_cases s with ⟨h, e⟩ | ⟨_, _, _, _, _, _, e⟩ | ⟨_, e⟩ <;> simp_all

/-- A cancellation keeps the records (R14). -/
@[simp] theorem cancelReservation_records : (cancelReservation s).list.records = s.list.records := by
  rcases cancelReservation_cases s with ⟨_, e⟩ | ⟨_, _, _, _, _, _, e⟩ | ⟨_, e⟩ <;> simp [e]

/-- A discard leaves no record (R46). -/
@[simp] theorem discard_records (keep : Bool) : (discard keep s).list.records = [] := by
  unfold discard
  dsimp only
  split <;> simp [emptyList]

/-- A discard keeps the reservation at the start of a FULL resync and cancels it otherwise (R46). -/
theorem discard_reserved (keep : Bool) :
    (discard keep s).list.reserved = (keep && s.list.reserved) := by
  unfold discard
  dsimp only
  rcases failConfirmWait_cases s with ⟨_, e⟩ | ⟨_, e⟩ <;> cases keep <;> simp [e, emptyList]

/-! ### Walker and markers -/

/-- A RUNNING walker pauses at once or when its open SYNC record closes; another is left alone (R124). -/
theorem pauseWalker_cases :
    (s.walker.run ≠ .running ∧ pauseWalker s = s)
    ∨ (s.walker.run = .running ∧ fillsSync s.list = true
        ∧ pauseWalker s = { s with walker := { s.walker with pauseDue := true } })
    ∨ (s.walker.run = .running ∧ fillsSync s.list = false
        ∧ pauseWalker s = { s with walker := { s.walker with run := .paused } }) := by
  unfold pauseWalker
  split
  · split
    · exact .inr (.inl ⟨‹_›, ‹_›, rfl⟩)
    · exact .inr (.inr ⟨‹_›, eq_false_of_ne_true ‹_›, rfl⟩)
  · exact .inl ⟨‹_›, rfl⟩

/-- A marker is appended where an entry is there for it and waits otherwise (R27, R28). -/
theorem askMarker_cases (body : RecordBody) :
    (markerMayTake s = true ∧ askMarker body s = { s with list := addRecord body .pending false s.list })
    ∨ (markerMayTake s = false ∧ askMarker body s = { s with list := { s.list with waitingMarker := some body } }) := by
  unfold askMarker
  split
  · exact .inl ⟨‹_›, rfl⟩
  · exact .inr ⟨eq_false_of_ne_true ‹_›, rfl⟩

/-- A request for an ACK leaves a request that stands (R67). -/
theorem askAck_eq : askAck s = { s with tx := { s.tx with
    ackRequest := if s.tx.ackRequest = .none then .ack else s.tx.ackRequest } } := by
  rcases s with ⟨_, _, _, _, _, _, _, _, _, ⟨_, _, ⟨_ | _ | _⟩, _, _⟩, _, _, _, _, _, _, _⟩ <;> rfl

/-- A running promote timer is cancelled (R89). -/
theorem cancelPromote_eq : cancelPromote s = { s with
    pair := { s.pair with promoteTimer := none }
    events := { s.events with
      autoPromote := if s.pair.promoteTimer.isSome then .cancelled else s.events.autoPromote } } := by
  unfold cancelPromote
  rcases s with ⟨_, _, _, _, _, _, _, _, _, _, ⟨_, _, _, _, _, _ | d, _⟩, _, _, _, _, _, _⟩ <;> rfl

/-! ### Replay list -/

/-- Closing the open WRITE record keeps the number of records (R20). -/
@[simp] theorem closeWrite_length (l : ReplayList) : (closeWrite l).records.length = l.records.length := by
  simp [closeWrite]

/-- Closing the open WRITE record keeps the occupancy (R20, R23). -/
@[simp] theorem occupancy_closeWrite (l : ReplayList) : occupancy (closeWrite l) = occupancy l := by
  simp [occupancy, closeWrite]

/-- A record added takes one entry (R19, R26). -/
@[simp] theorem occupancy_addRecord (body : RecordBody) (st : RecState) (w : Bool) (l : ReplayList) :
    occupancy (addRecord body st w l) = occupancy l + 1 := by
  simp [occupancy, addRecord]
  omega

/-- What a list of records says of itself after every SENT record has returned to PENDING: none is SENT (R36). -/
theorem unsend_none_sent (rs : List Rec) : ∀ r ∈ unsend rs, isSent r = false := by
  intro r hr
  simp only [unsend, List.mem_map] at hr
  obtain ⟨x, _, rfl⟩ := hr
  split
  · rfl
  · exact eq_false_of_ne_true ‹_›

/-! ### Memory port -/

/-- The internal requester's need is a waiting request, or, while a transaction of it is in progress, changes nothing
at the port (R151). -/
theorem requested_cases (op : InternalOp) (m : MemPort) :
    (internalBusy m = true ∧ requested op m = m)
    ∨ (internalBusy m = false ∧ requested op m = { m with waiting := some op }) := by
  unfold requested
  split
  · exact .inl ⟨‹_›, rfl⟩
  · exact .inr ⟨eq_false_of_ne_true ‹_›, rfl⟩

/-- A requester on a free bus has its need waiting (R151). -/
theorem requested_free (op : InternalOp) {m : MemPort} (h : m.bus = none) :
    requested op m = { m with waiting := some op } := by
  simp [requested, internalBusy, h]

/-- The answer of a disowned transaction frees the bus, and what the requester needs is asked for (R151, R153). -/
theorem discardAnswer_eq : discardAnswer s = { s with mem := { s.mem with
    bus := none, waiting := (neededOp (freeBus s)).elim s.mem.waiting some } } := by
  unfold discardAnswer askAgain
  cases neededOp (freeBus s) <;> simp [requested_free, freeBus]

/-! ### Management transactions -/

/-- Every value is formed by four data bytes: its own, the most significant first (R170). -/
theorem valueOf_bytes (v : Word) :
    valueOf { first := v.extractLsb' 24 8, second := v.extractLsb' 16 8, third := v.extractLsb' 8 8
              fourth := v.extractLsb' 0 8 } = v := by
  apply BitVec.eq_of_getLsbD_eq
  intro i hi
  simp only [valueOf, wordOf, BitVec.getLsbD_append, BitVec.getLsbD_extractLsb']
  grind

/-- A transaction is taken whole by the addressed unit, and changes nothing but the acknowledgement elsewhere (R169). -/
theorem transaction_cases (target : BitVec 7) (bytes : Nat) (taken : State → State) :
    (acknowledges target s = true
      ∧ transaction target bytes taken s = taken { s with mgmt := { s.mgmt with acked := bytes } })
    ∨ (acknowledges target s = false
      ∧ transaction target bytes taken s = { s with mgmt := { s.mgmt with acked := 0 } }) := by
  unfold transaction
  split
  · exact .inl ⟨‹_›, rfl⟩
  · exact .inr ⟨eq_false_of_ne_true ‹_›, rfl⟩

/-- A write that passes the general checks is judged by the item's own rule (R173). -/
theorem writeTransaction_own {target : BitVec 7} {item : Byte} {kind : ItemKind} (own : State → State)
    (ha : acknowledges target s = true) (hk : itemKind item = some kind) (hr : kind ≠ .readOnly)
    (hl : s.loader.state ≠ .loading) :
    writeTransaction target item own s =
      own { s with mgmt := { s.mgmt with acked := 6, selected := item } } := by
  simp [writeTransaction, transaction, writeLength, ha, hk, hr, hl, selectItem]

/-- A command that the slot takes with none IN_PROGRESS is judged by its own rule, a role command having stopped the
promote timer (R89, R177). -/
theorem takeCommand_own (c : Command) (own : State → State) (hp : s.mgmt.result.state ≠ .inProgress) :
    takeCommand c own s =
      own (if isRoleCommand c then cancelPromote (setAccess .ok s) else setAccess .ok s) := by
  unfold takeCommand
  dsimp only
  rw [if_neg]
  split <;> simp [cancelPromote_eq, hp]

/-! ### Bits of the configuration memory port -/

/-- Bits sent for bytes are taken as those bytes (R200). -/
@[simp] theorem bytesOfBits_bitsOfBytes (xs : List Byte) (rest : List Bool) :
    bytesOfBits (bitsOfBytes xs ++ rest) = xs ++ bytesOfBits rest := by
  induction xs with
  | nil => rfl
  | cons x xs ih =>
    have bit : ∀ b : Byte, BitVec.ofBool (b.getLsbD 7) ++ BitVec.ofBool (b.getLsbD 6) ++ BitVec.ofBool (b.getLsbD 5)
        ++ BitVec.ofBool (b.getLsbD 4) ++ BitVec.ofBool (b.getLsbD 3) ++ BitVec.ofBool (b.getLsbD 2)
        ++ BitVec.ofBool (b.getLsbD 1) ++ BitVec.ofBool (b.getLsbD 0) = b := by decide
    simp only [bitsOfBytes] at ih
    simp only [bitsOfBytes, List.flatMap_cons, bitsOfByte, List.cons_append, List.nil_append, bytesOfBits, bit, ih]

/-- Eight bits are sent for each byte (R200). -/
@[simp] theorem bitsOfBytes_length (xs : List Byte) : (bitsOfBytes xs).length = 8 * xs.length := by
  induction xs with
  | nil => rfl
  | cons x xs ih => simp_all [bitsOfBytes, bitsOfByte]; omega

/-- An image delivered bit by bit is taken as its bytes, and what follows them is what the pull-up gives (R188). -/
theorem deliveredBytes_bitsOfBytes (xs : List Byte) :
    deliveredBytes (bitsOfBytes xs)
      = xs ++ bytesOfBits (List.replicate (8 * maxImageBytes - 8 * xs.length) Config.pulledUpBit) := by
  simp [deliveredBytes]

/-! ### Characters the transmitter puts on the line -/

/-- A free serializer drives no character (R64). -/
@[simp] theorem serializerCharacters_free : serializerCharacters .free = [] := rfl

/-- A frame is sent as its characters (R55, R198). -/
@[simp] theorem serializerCharacters_sending (f : Frame) :
    serializerCharacters (.sending f) = frameCharacters f := rfl

/-- A frame cut off ends with the ABORT character (R69, R198). -/
@[simp] theorem serializerCharacters_aborting :
    serializerCharacters .aborting = [characterBits true abortCode] := rfl

/-! ### Scheduler -/

/-- The scheduler starts at most one frame, the most preferred that is ready (R64). -/
theorem schedule_cases :
    (mayStart s = false ∧ schedule s = s)
    ∨ (mayStart s = true ∧ s.tx.helloDue = true ∧ schedule s = startHello s)
    ∨ (mayStart s = true ∧ s.tx.helloDue = false ∧ ackReady s = true ∧ schedule s = startAck s)
    ∨ (mayStart s = true ∧ s.tx.helloDue = false ∧ ackReady s = false
        ∧ ∃ r, offeredRecord s = some r ∧ schedule s = startRecord r s)
    ∨ (mayStart s = true ∧ s.tx.helloDue = false ∧ ackReady s = false ∧ offeredRecord s = none
        ∧ pulseReady s = true ∧ schedule s = startPulse s)
    ∨ (mayStart s = true ∧ Safety.frameReady s = false ∧ schedule s = s) := by
  unfold schedule Safety.frameReady
  rcases h₁ : mayStart s <;> rcases h₂ : s.tx.helloDue <;> rcases h₃ : ackReady s
    <;> rcases h₄ : offeredRecord s <;> rcases h₅ : pulseReady s <;> simp_all


/-! ### Late captures and resync starts -/

/-- A late capture that finds no free entry spills, marks its block and then takes the resync start (R17, R45; log 10). -/
theorem resyncAfterSpill_markWrite (req : HostReq) :
    resyncAfterSpill (markWrite req (spillCore s)) = Safety.lateSpill (req.addr.toNat / 1024) s := by
  have block : blockOf req.addr = req.addr.toNat / 1024 := by simp only [blockOf, WordAddr.byte]; omega
  simp [resyncAfterSpill, markWrite, Safety.lateSpill, upWithStandby, block]

/-- A marker asked for while none waits is the only one that may wait afterwards (R28). -/
theorem askMarker_waitingMarker (body : RecordBody) (h : s.list.waitingMarker = none) :
    (askMarker body s).list.waitingMarker = none ∨ (askMarker body s).list.waitingMarker = some body := by
  rcases askMarker_cases s body with ⟨_, e⟩ | ⟨_, e⟩
  · exact .inl (by rw [e]; exact h)
  · exact .inr (by rw [e])

/-- The marker that waits after a resync start is its own BEGIN or none: an older one is withdrawn (R28; log 31). -/
theorem resyncStart_waitingMarker : (resyncStart s).list.waitingMarker = none
    ∨ (resyncStart s).list.waitingMarker = some (.beginMark (s.stream.epoch + 1#16) (resyncScope s)) :=
  askMarker_waitingMarker _ _ rfl

end Sys2Proof.Machine
end

