-- ==== Sys2Proof/Laws/Dirty.lean ====
section
/-! SUPPORT. The dirty map's operations: which blocks each leaves marked, and that each keeps the canonical form
(R115). -/

namespace Sys2Proof.Machine

open Sys2Proof.Safety

/-- Marking a block marks it and keeps the others (R115). -/
@[simp] theorem mem_markBlock {x b : Nat} {marks : List Nat} : x ∈ markBlock b marks ↔ x = b ∨ x ∈ marks := by
  induction marks with
  | nil => simp [markBlock]
  | cons a rest ih =>
    simp only [markBlock]
    split
    · simp
    · split
      · subst_vars
        simp
      · simp only [List.mem_cons, ih]
        tauto

/-- A list is rising exactly when each element is below all that follow it. -/
theorem rising_iff_pairwise (l : List Nat) : rising l = true ↔ l.Pairwise (· < ·) := by
  induction l with
  | nil => simp [rising]
  | cons a rest ih =>
    cases rest with
    | nil => simp [rising]
    | cons b rest =>
      simp only [rising, Bool.and_eq_true, decide_eq_true_eq, ih, List.pairwise_cons]
      constructor
      · rintro ⟨h, h₁, h₂⟩
        refine ⟨?_, h₁, h₂⟩
        intro x hx
        rcases List.mem_cons.1 hx with rfl | hx
        · exact h
        · exact Nat.lt_trans h (h₁ x hx)
      · rintro ⟨h, h₁, h₂⟩
        exact ⟨h b (by simp), h₁, h₂⟩

/-- Marking a block keeps the marks in rising order. -/
theorem rising_markBlock {b : Nat} {marks : List Nat} (h : rising marks = true) : rising (markBlock b marks) = true := by
  rw [rising_iff_pairwise] at *
  induction marks with
  | nil => simp [markBlock]
  | cons a rest ih =>
    rw [List.pairwise_cons] at h
    simp only [markBlock]
    split
    · rw [List.pairwise_cons, List.pairwise_cons]
      refine ⟨?_, h⟩
      intro x hx
      rcases List.mem_cons.1 hx with rfl | hx
      · assumption
      · have := h.1 x hx
        omega
    · split
      · exact List.pairwise_cons.2 h
      · refine List.pairwise_cons.2 ⟨?_, ih h.2⟩
        intro x hx
        rcases mem_markBlock.1 hx with rfl | hx
        · omega
        · exact h.1 x hx

/-- Marking a block of the address space keeps the map's canonical form. -/
theorem dirtyWf_markBlock {b : Nat} {marks : List Nat} (hb : b < Config.blocks) (h : dirtyWf marks = true) :
    dirtyWf (markBlock b marks) = true := by
  simp only [dirtyWf, Bool.and_eq_true, List.all_eq_true, decide_eq_true_eq] at *
  refine ⟨rising_markBlock h.1, ?_⟩
  intro x hx
  rcases mem_markBlock.1 hx with rfl | hx
  · exact hb
  · exact h.2 x hx

/-- Clearing a block's mark keeps the map's canonical form (R125). -/
theorem dirtyWf_erase (b : Nat) {marks : List Nat} (h : dirtyWf marks = true) : dirtyWf (marks.erase b) = true := by
  simp only [dirtyWf, Bool.and_eq_true, List.all_eq_true, decide_eq_true_eq, rising_iff_pairwise] at *
  exact ⟨h.1.sublist List.erase_sublist, fun x hx => h.2 x (List.mem_of_mem_erase hx)⟩

/-- A word lies in a block of the address space (R115). -/
theorem blockOf_lt (a : WordAddr) : blockOf a < Config.blocks := by
  have := a.isLt
  simp only [blockOf, WordAddr.byte, Config.blocks]
  omega

/-- The blocks marked at the start of a FULL resync: those marked before and every mirrored block (R122). -/
theorem mem_fullMarking {b : Nat} {table : Vector RegionEntry 16} {marks : List Nat} :
    b ∈ fullMarking table marks ↔ b < Config.blocks ∧ (b ∈ marks ∨ mirroredBlock table b = true) := by
  simp [fullMarking]

/-- The marks of a FULL resync are in the map's canonical form (R115, R122). -/
theorem dirtyWf_fullMarking (table : Vector RegionEntry 16) (marks : List Nat) :
    dirtyWf (fullMarking table marks) = true := by
  simp only [dirtyWf, Bool.and_eq_true, List.all_eq_true, decide_eq_true_eq, rising_iff_pairwise]
  refine ⟨?_, fun x hx => (mem_fullMarking.1 hx).1⟩
  exact List.pairwise_lt_range.filter _

/-- The blocks a spill marks (R44). -/
theorem mem_spillMarks {b : Nat} {s : State} :
    b ∈ spillMarks s ↔ b ∈ s.dirty ∨ (s.walker.taken = true ∧ b = s.walker.cursor)
      ∨ ∃ r ∈ s.list.records, b ∈ recordBlocks r := by
  have h : ∀ (bs l : List Nat), b ∈ bs.foldl (fun marks x => markBlock x marks) l ↔ b ∈ l ∨ b ∈ bs := by
    intro bs
    induction bs with
    | nil => simp
    | cons a rest ih =>
      intro l
      simp only [List.foldl_cons, ih, mem_markBlock, List.mem_cons]
      tauto
  simp only [spillMarks, h]
  split <;> simp_all

/-- A spill keeps the map's canonical form while a taken block lies in the address space (R44, R115). -/
theorem dirtyWf_spillMarks {s : State} (h : dirtyWf s.dirty = true) (ht : takenInside s.walker = true) :
    dirtyWf (spillMarks s) = true := by
  have step : ∀ (bs l : List Nat), (∀ b ∈ bs, b < Config.blocks) → dirtyWf l = true →
      dirtyWf (bs.foldl (fun marks x => markBlock x marks) l) = true := by
    intro bs
    induction bs with
    | nil => intro l _ hl; exact hl
    | cons a rest ih =>
      intro l hb hl
      exact ih _ (fun b hm => hb b (List.mem_cons_of_mem _ hm)) (dirtyWf_markBlock (hb a (by simp)) hl)
  have covered : ∀ b ∈ s.list.records.flatMap recordBlocks, b < Config.blocks := by
    intro b hb
    obtain ⟨r, _, hr⟩ := List.mem_flatMap.1 hb
    unfold recordBlocks at hr
    split at hr
    · obtain ⟨i, _, rfl⟩ := List.mem_map.1 hr
      exact blockOf_lt _
    · simp only [List.mem_singleton] at hr
      subst hr
      exact blockOf_lt _
    · simp at hr
  refine step _ _ ?_ h
  split
  · intro b hb
    rcases List.mem_cons.1 hb with rfl | hb
    · simpa [takenInside, *] using ht
    · exact covered b hb
  · exact covered

end Sys2Proof.Machine
end

