-- ==== Sys2Proof/Tests/Slice0.lean ====
section
/-! SUPPORT. Tests of the model: the checks of WellFormed, the worked examples of the manual (expected values are
the manual's own, each test names its section), and for every statement with hypotheses a state and operands that
meet them. -/

namespace Sys2Proof.Tests

open Sys2Proof Sys2Proof.Machine Sys2Proof.Safety

set_option Elab.async false

/-- The state a command answers; the state itself if it answers none. -/
def next (c : Instr) (s : State) : State :=
  match exec c s with
  | .next t => t
  | _ => s

/-- A command answers a next state. -/
def completes (c : Instr) (s : State) : Bool :=
  match exec c s with
  | .next _ => true
  | _ => false

/-- The next state of a command has a property. -/
def leads (c : Instr) (s : State) (p : State → Bool) : Bool :=
  match exec c s with
  | .next t => p t
  | _ => false

/-! ### WellFormed refuses -/

/-- The data bytes of a write whose value fits one byte, the last of the four (R170). -/
def low (b : Byte) : DataBytes := ⟨0#8, 0#8, 0#8, b⟩

theorem test_wf_image_of_1283_bytes : Instr.wf (.loadCommit (List.replicate (8 * 1283) false)) = true := by
  decide +kernel
theorem test_wf_image_too_long_commit : Instr.wf (.loadCommit (List.replicate (8 * 1283 + 1) false)) = false := by
  decide +kernel
theorem test_wf_image_too_long_fail : Instr.wf (.loadFail (List.replicate (8 * 1283 + 1) false)) = false := by
  decide +kernel
theorem test_wf_item_with_own_row :
    Instr.wf (.itemWrite 92#7 0x31#8 (low 0#8)) = false ∧ Instr.wf (.itemWrite 92#7 0x38#8 (low 1#8)) = false
      ∧ Instr.wf (.itemWrite 92#7 0x7F#8 (low 0#8)) = false ∧ Instr.wf (.itemWrite 92#7 0x50#8 (low 8#8)) = false
      ∧ Instr.wf (.itemWrite 92#7 0x50#8 (low 9#8)) = true ∧ Instr.wf (.itemWrite 92#7 0x42#8 (low 4#8)) = true
      ∧ Instr.wf (.itemWrite 92#7 0x50#8 ⟨0#8, 0#8, 1#8, 4#8⟩) = true := by decide
theorem test_wf_short_write :
    Instr.wf (.shortWrite 92#7 0x43#8 []) = false ∧ Instr.wf (.shortWrite 92#7 0x43#8 [0#8, 0#8, 0#8, 0#8]) = false
      ∧ Instr.wf (.shortWrite 92#7 0x43#8 [0#8, 0#8, 0#8]) = true := by decide
theorem test_wf_read_of_no_byte : Instr.wf (.itemRead 92#7 0) = false ∧ Instr.wf (.itemRead 92#7 1) = true := by
  decide
theorem test_no_word_spells_a_command : decodeTableWord 32 0xFFFFFFFF = none := by decide

/-! ### States of the examples -/

/-- A region table entry in granules of 256 bytes. -/
def entry (base count : Nat) (policy : Policy) (guard : Guard) : RegionEntry :=
  { enabled := true, base := BitVec.ofNat 16 base, countLess1 := BitVec.ofNat 16 (count - 1)
    policy := policy, guard := guard }

/-- The table of 6.7 with an entry 3 for CONFIRM writes: blocks 16 and 17 STREAM and GUARDED, block 20 STREAM,
block 32 CONFIRM. -/
def table : Vector RegionEntry 16 :=
  setRegion (setRegion (setRegion Settings.reset.regions 0#4 (entry 256 32 .stream .guarded))
    1#4 (entry 320 16 .stream .opened)) 3#4 (entry 512 16 .confirm .opened)

/-- A running unit of role NONE, link enabled but not yet begun, load state LOADED, the straps at 0. -/
def idle : State := { State.reset with
  phase := .running
  cfg := { Settings.reset with regions := table, linkEnable := true }
  loader := { Loader.reset with state := .loaded } }

/-- The partner view of a STANDBY, CONSISTENT partner that holds epoch 7 and expects `n`. -/
def standbyView (n : Half) : PartnerView :=
  { heard := true, role := .standby, consistency := .consistent, epoch := some 7#16, seq := n, streamOpen := false
    digest := regionDigest table }

/-- An ACTIVE unit in epoch 7, its link UP to a STANDBY partner, its serializer busy. -/
def active (mode : StreamMode) (records : List Rec) (nextSeq : Half) : State := { idle with
  pair := { Pairing.reset with role := .active, link := .up, partner := standbyView 900#16, lossTimer := some 2000 }
  stream := { mode := mode, isOpen := true, epoch := 7#16, basisEpoch := 0#16, basisValid := false }
  list := { ReplayList.reset with records := records, nextSeq := nextSeq }
  rx := { LinkRx.reset with receiver := .hunting }
  tx := { LinkTx.reset with serializer := .sending (.ack 0#16) } }

/-- A STANDBY unit that holds `epoch` and expects `n`, its link UP to an ACTIVE partner. -/
def standby (c : Consistency) (epoch n : Half) (frames : List Frame) : State := { idle with
  pair := { Pairing.reset with
    role := .standby, link := .up, lossTimer := some 2000
    partner := { standbyView n with role := .active, consistency := .inconsistent, streamOpen := true } }
  apply := { ApplyEngine.reset with consistency := c, heldEpoch := some epoch, expected := n }
  rx := { LinkRx.reset with receiver := .hunting, buffer := frames }
  tx := { LinkTx.reset with serializer := .sending (.ack 0#16) } }

/-- A word with all its lanes. -/
def word (v : Nat) : DataWord := { mask := fullMask, data := BitVec.ofNat 32 v }

/-- A record with its sequence, body and state, no waiter; transmitted when SENT. -/
def rec_ (seq : Nat) (body : RecordBody) (state : RecState) : Rec :=
  { seq := BitVec.ofNat 16 seq, body := body, state := state, waiter := false, transmitted := state == .sent }

/-- A WRITE record of region 0 at a byte address, with `n` words. -/
def write (seq a n : Nat) (state : RecState) : Rec :=
  rec_ seq (.data .write 0#4 (BitVec.ofNat 22 (a / 4)) (List.replicate n (word 1))) state

/-- A SYNC record of region 0 at a byte address, with `n` words read. -/
def sync (seq a n : Nat) (state : RecState) : Rec :=
  rec_ seq (.data .sync 0#4 (BitVec.ofNat 22 (a / 4)) (List.replicate n (word 1))) state

/-- `n` sent records numbered from `from_` on. -/
def sents (from_ n : Nat) : List Rec := (List.range n).map fun i => write (from_ + i) 65536 1 .sent

/-- The unit with a controller write to a byte address on its way to memory. -/
def writing (a : Nat) (region : BitVec 4) (policy : Policy) (reserved : Bool) (s : State) : State :=
  let req : HostReq := { kind := .write, addr := BitVec.ofNat 22 (a / 4), lanes := 15#4, data := 5#32 }
  { s with
    host := { s.host with port := .forwarded req { role := .active, region := some region, policy := policy } false }
    mem := { s.mem with bus := some (.host req) }
    list := { s.list with reserved := reserved } }

/-- The unit with frames in its receive buffer. -/
def hearing (frames : List Frame) (s : State) : State := { s with rx := { s.rx with buffer := frames } }

/-- The unit with a free serializer. -/
def freed (s : State) : State := { s with tx := { s.tx with serializer := .free } }

/-- The numbers and states of a list's records. -/
def shape (s : State) : List (Nat × RecState) := s.list.records.map fun r => (r.seq.toNat, r.state)

/-- The command in the slot with its state and phase. -/
def slot (c : Command) (state : CmdState) (detail : Detail) (s : State) : State := { s with
  mgmt := { s.mgmt with result :=
    { command := some c, state := state, reason := .none, detail := detail, busyRefusal := none } } }

/-! ### Lookup, formats, items -/

/-- The table of chapter 1's example. -/
def lookupTable : Vector RegionEntry 16 :=
  setRegion (setRegion (setRegion Settings.reset.regions 2#4 (entry 256 16 .confirm .guarded))
    5#4 (entry 240 64 .stream .guarded)) 9#4 { entry 0 65536 .stream .opened with enabled := false }

/-- The five lookups of chapter 1's example. -/
theorem test_lookup_example :
    [61440, 65540, 69632, 80000, 4000000].map (fun a =>
        (regionIndexAt lookupTable a, policyAt lookupTable a, guardAt lookupTable a))
      = [(some 5#4, .stream, .guarded), (some 2#4, .confirm, .guarded), (some 5#4, .stream, .guarded),
          (none, .pass, .opened), (none, .pass, .opened)] := by decide

/-- Blocks 15 and 16 are mirrored, block 19 is not (chapter 1's example). -/
theorem test_mirrored_blocks : mirroredBlock lookupTable 15 = true ∧ mirroredBlock lookupTable 16 = true
    ∧ mirroredBlock lookupTable 19 = false := by decide +kernel

/-- The nine bytes 0x31 to 0x39 give 0x29B1 (11.1). -/
theorem test_crc_check_value :
    crc16 [0x31#8, 0x32#8, 0x33#8, 0x34#8, 0x35#8, 0x36#8, 0x37#8, 0x38#8, 0x39#8] = 0x29B1#16 := by
  decide +kernel

/-- A receiver that feeds type code, payload and both CRC characters obtains 0 (11.1). -/
theorem test_crc_of_intact_frame :
    let f : Frame := .ack 0x1234#16
    crc16 (0x14#8 :: [0x12#8, 0x34#8] ++ halfBytes (frameCrc f)) = 0#16 := by decide +kernel

/-- SOF-HELLO on the line: start 0, value 0x11, marker 1, parity 0 (three ones already), stop 1 (11.1). -/
theorem test_character_bits : characterBits true 0x11#8 = 0xA22#12 ∧ characterBits false 0x00#8 = 0xC00#12
    ∧ symbolOf 0xA22#12 = .sof .hello ∧ symbolOf 0xE22#12 = .error := by decide

/-- A RECORD WRITE of three words: masks two to a byte, the last half byte 0, the address in three bytes, the data
most significant byte first (11.2). -/
theorem test_record_payload :
    framePayload (.record 0x0102#16 (.data .write 3#4 0x10004#22
        [{ mask := 15#4, data := 0xAABBCCDD#32 }, { mask := 1#4, data := 2#32 }, { mask := 8#4, data := 3#32 }]))
      = [0x01#8, 0x02#8, 0x01#8, 0x03#8, 0x04#8, 0x00#8, 0x10#8, 0x03#8, 0x1F#8, 0x08#8,
          0xAA#8, 0xBB#8, 0xCC#8, 0xDD#8, 0#8, 0#8, 0#8, 2#8, 0#8, 0#8, 0#8, 3#8] := by decide

/-- The cold reset values of the item map (11.4). -/
theorem test_item_map_at_reset :
    [0x00, 0x10, 0x11, 0x12, 0x16, 0x17, 0x18, 0x1A, 0x1B, 0x1E, 0x23, 0x21, 0x22, 0x28, 0x2C, 0x30, 0x31, 0x32,
        0x38, 0x40, 0x41, 0x42, 0x43, 0x44, 0x45, 0x46, 0x47, 0x48, 0x49, 0x4A, 0x4B, 0x4C, 0x50, 0x51, 0x60,
        0x7F].map (fun i => (itemValue (BitVec.ofNat 8 i) State.reset).map BitVec.toNat)
      = [0x2D710781, 0, 0, 0, 0, 0, 0, 0, 0, 0, 0, 0, 0, 0, 0, 0, 0, 0,
          0x10, 16, 4, 8, 500, 6, 10000, 1000, 2000, 50, 20, 0, 200, 5000, 0, 0, 0, 0].map some := by decide +kernel

/-- Numbers beside the map name no item (11.4). -/
theorem test_items_that_are_none : [0x02, 0x0F, 0x24, 0x27, 0x2D, 0x33, 0x39, 0x4D, 0x52, 0x5F, 0x80, 0xFF].all
    (fun i => itemKind (BitVec.ofNat 8 i) == none) = true := by decide

/-! ### The image of 10.7 and 11.6 -/

/-- The six entries. -/
def entries : List (Byte × Word) :=
  [(0x32#8, 0x05000008#32), (0x60#8, 0x0100003F#32), (0x61#8, 0x00000111#32), (0x60#8, 0x0100001F#32),
    (0x38#8, 0x00000021#32), (0x4A#8, 0x00000002#32)]

/-- The bits that a memory with the image of some entries delivers. -/
def imageBits (entries : List (Byte × Word)) : List Bool := bitsOfBytes (imageOf entries)

/-- The signature's first byte, M, on the port: 0x4D most significant bit first; what is left of an image that ends is
read as 1 bits (R188, R200). -/
theorem test_image_bit_order :
    bitsOfByte 0x4D#8 = [false, true, false, false, true, true, false, true]
      ∧ bytesOfBits [false, true, false, false, true, true, false, true] = [0x4D#8]
      ∧ (deliveredBytes (bitsOfByte 0x4D#8 ++ [false])).take 2 = [0x4D#8, 0x7F#8] := by decide +kernel

/-- A unit that reads its image after cold reset. -/
def loading : State := { State.reset with
  phase := .running
  loader := { state := .loading, failIndex := 0#8, reading := true, portOut := bitsOfBytes Config.loaderCommand } }

/-- The commit: LOADED, STANDBY, link DOWN at 50 Mbit/s, ROLE_CHANGED and LOAD_END set, ALERT asserted; the items
read as 11.6 says. -/
theorem test_load_commit : leads (.loadCommit (imageBits entries)) loading (fun t =>
    t.loader.state == .loaded && t.loader.failIndex == 0#8 && t.pair.role == .standby && t.pair.link == .down
      && t.cfg.linkRate == .r50 && t.apply.consistency == .inconsistent && t.apply.heldEpoch == none
      && t.events.flags == 0x3000#15 && t.events.alert
      && itemValue 0x60#8 t == some 0x0100001F#32 && itemValue 0x38#8 t == some 0x00000021#32) = true := by
  decide +kernel

/-- Entry 2 as 0xFFDC003F: FAILED at index 2, role NONE, ALERT released, LOAD_END set. -/
theorem test_load_bad_value :
    leads (.loadFail (imageBits ((0x32#8, 0x05000008#32) :: (0x60#8, 0xFFDC003F#32) :: entries.drop 2))) loading
      (fun t => t.loader.state == .failed && t.loader.failIndex == 2#8 && t.pair.role == .none && !t.events.alert
        && t.events.flags == 0x2000#15 && t.cfg == Settings.reset) = true := by decide +kernel

/-- A byte of entry 5 that reads other than it was written: FAILED at index 0. -/
theorem test_load_damaged_byte : leads (.loadFail (bitsOfBytes ((imageOf entries).set 30 0xFF#8))) loading
    (fun t => t.loader.state == .failed && t.loader.failIndex == 0#8) = true := by decide +kernel

/-! ### Resets -/

theorem test_cold_reset : leads .coldReset (active .resync [write 5 65536 1 .sent] 6#16) (fun t =>
    t.phase == .cold && t.pair.role == .none && t.cfg == Settings.reset && t.list == ReplayList.reset) = true := by
  decide +kernel
/-- LOAD_EN low: SKIPPED, and LOAD_END raised (R185). -/
theorem test_cold_reset_end : leads (.coldResetEnd 3#2 false) State.reset (fun t =>
    t.loader.state == .skipped && t.events.flags == 0x2000#15 && targetAddress t == 95
      && itemValue 0x20#8 t == some 4#32 && itemValue 0x01#8 t == some 3#32) = true := by decide +kernel
/-- The epoch counter and the configuration are kept (R186). -/
theorem test_warm_reset : leads .warmReset (active .resync [write 5 65536 1 .sent] 6#16) (fun t =>
    t.phase == .warm && t.pair.role == .none && t.stream.epoch == 7#16 && t.list.nextSeq == 0#16
      && t.cfg.linkEnable) = true := by decide +kernel
/-- The unit enters START_ROLE without ROLE_CHANGED, the link DOWN with its first HELLO (R186). -/
theorem test_warm_reset_end :
    leads .warmResetEnd { idle with phase := .warm, wrst := true, cfg := { idle.cfg with startRole := .active } }
      (fun t => t.pair.role == .active && t.pair.link == .down && t.events.flags == 0#15 && t.stream.mode == .closed
        && (match t.tx.serializer with
          | .sending (.hello h) => h.role == .active && !h.seen && !h.streamOpen
          | _ => false)) = true := by decide +kernel

/-- The release of WRST after a cold reset that ended with WRST asserted: the load begins, no role is entered, though
START_ROLE names one (R185; log 19). -/
theorem test_wrst_released_after_cold_reset :
    let s := next (.coldResetEnd 0#2 true) { State.reset with wrst := true }
    s.loader.state = .loading ∧ s.loader.reading = false
      ∧ leads .warmResetEnd { s with cfg := { s.cfg with startRole := .active } } (fun t =>
        t.loader.reading && t.loader.state == .loading && t.pair.role == .none && !t.wrst) = true := by decide +kernel
/-- A disable cuts a frame off: what is left to send is ABORT, value 0x1F with the marker: start 0, five ones, three
zeros, marker 1, parity 1 (seven ones with it), stop 1 (R69, R70, 11.1). -/
theorem test_abort_character :
    leads (.linkControl 92#7 (low 0x10#8)) (active .normal [] 5#16) (fun t => sendPair t == [0xE3E#12]) = true
      ∧ symbolOf 0xE3E#12 = .abort := by decide +kernel

/-! ### Host port -/

/-- A write to a GUARDED region on a STANDBY unit (R141). -/
theorem test_guarded_write_refused :
    leads (.hostRequest .write 16385#22 15#4 1#32) (standby .consistent 7#16 0#16 []) (fun t =>
      t.host.response == some .fault && t.host.port == .idle && t.host.lastGuardAddr == 16385#22
        && itemValue 0x1E#8 t == some 65540#32 && t.events.flags == 0x400#15) = true := by decide +kernel
/-- The write of 7.4 takes its reservation and is forwarded (event 1). -/
theorem test_host_request_reserves :
    leads (.hostRequest .write (BitVec.ofNat 22 32768) 15#4 1#32) (active .normal (sents 80 1) 81#16) (fun t =>
      t.list.reserved && (match t.host.port with
        | .forwarded _ c condemned => c.policy == .confirm && c.region == some 3#4 && !condemned
        | _ => false)) = true := by decide +kernel
/-- Count 4 with both waiting grants the internal requester (R152). -/
theorem test_memory_grant_by_fairness :
    let s := { writing 65536 0#4 .stream true (active .resync [] 5#16) with
      mem := { bus := none, waiting := some (.walkerRead 7#22), fairness := 4 } }
    leads .memoryGrant s (fun t => t.mem.bus == some (.internal (.walkerRead 7#22) false) && t.mem.fairness == 0)
      = true := by decide +kernel
/-- 7.4 event 2: record 81 with one word, PENDING with a waiter; the response withheld, the timer at 5000 µs. -/
theorem test_confirm_write_captured :
    leads (.hostMemoryAnswer (.ok 0#32)) (writing 131072 3#4 .confirm true (active .normal (sents 80 1) 81#16))
      (fun t => shape t == [(80, .sent), (81, .pending)] && t.list.records.map (·.waiter) == [false, true]
        && isWithheld t && t.host.confirmTimer == some 5000 && t.host.response == none) = true := by decide +kernel
/-- Chapter 2's coalescing example, event 5: the rewrite of 4100 cannot join; 200 closes, 201 opens (here at
65536). -/
theorem test_rewrite_opens_next_record :
    leads (.hostMemoryAnswer (.ok 0#32))
      (writing 65540 0#4 .stream true (active .normal [write 200 65536 3 .opened] 201#16))
      (fun t => shape t == [(200, .pending), (201, .opened)] && occupancy t.list == 2 && t.list.nextSeq == 202#16)
      = true := by decide +kernel
/-- Chapter 2's coalescing example, event 10. -/
theorem test_coalesce_timer_expiry :
    let s := active .normal (sents 200 3 ++ [write 203 65548 1 .opened]) 204#16
    leads .coalesceTimerExpiry { s with list := { s.list with coalesceTimer := some 4 } } (fun t =>
      shape t == [(200, .sent), (201, .sent), (202, .sent), (203, .pending)] && t.list.coalesceTimer == none)
      = true := by decide +kernel
/-- A LIST hold ends with a reservation when an entry is free (R41). -/
theorem test_hold_reserved :
    let s := writing 65536 0#4 .stream false (active .normal (sents 0 63) 63#16)
    leads .holdReserved { s with
        host := { s.host with port := (match s.host.port with
          | .forwarded q c _ => .held .list q c true
          | p => p) } }
      (fun t => t.list.reserved && occupancy t.list == 64) = true := by decide +kernel
/-- 7.4, first variation: the confirm timer's expiry. -/
theorem test_confirm_timer_expiry :
    let s := active .normal (sents 80 1 ++ [{ write 81 131072 1 .sent with waiter := true }]) 82#16
    leads .confirmTimerExpiry { s with host := { s.host with
        port := .withheld { kind := .write, addr := 0#22, lanes := 15#4, data := 0#32 }, confirmTimer := some 5000 } }
      (fun t => t.host.response == some .fault && t.events.flags == 0x20#15
        && shape t == [(80, .sent), (81, .sent)] && t.list.records.all (fun r => !r.waiter)) = true := by
  decide +kernel
/-- A hold that times out with the link lost to a partner of role NONE: HOLD_TIMEOUT and SPILLED, TRACKING (R42). -/
theorem test_hold_timer_expiry :
    let s := active .normal (sents 0 64) 64#16
    let req : HostReq := { kind := .write, addr := 20480#22, lanes := 15#4, data := 0#32 }
    leads .holdTimerExpiry { s with
        host := { s.host with
          port := .held .list req { role := .active, region := some 1#4, policy := .stream } true }
        list := { s.list with holdTimer := some 10000 }
        pair := { s.pair with partner := PartnerView.cleared } }
      (fun t => t.stream.mode == .tracking && t.stream.basisValid && t.dirty == [16] && t.events.flags == 0xC0#15
        && (match t.host.port with
          | .forwarded q _ c => q == req && !c
          | _ => false)) = true := by decide +kernel

/-! ### Link -/

/-- 3.7 event 4: a parity error inside a frame. -/
theorem test_parity_error_in_frame :
    let s := standby .consistent 7#16 0#16 []
    leads (.linkCharacter (characterBits false 0#8 ^^^ 0x400#12))
      { s with rx := { s.rx with assembler := .inFrame .record (List.replicate 20 0#8) 0#16 } }
      (fun t => t.rx.charErrors == 1#16 && t.rx.badFrames == 1#16 && t.rx.rxDrops == 0#16
        && t.rx.assembler == .discard && t.rx.receiver == .hunting && t.events.flags == 0x10#15) = true := by
  decide +kernel
/-- 3.7 event 8: a good frame with four slots taken is dropped. -/
theorem test_frame_dropped :
    let s := standby .consistent 7#16 0#16 (List.replicate 4 (.ack 0#16))
    let payload := [0x01#8, 0x31#8, 0x04#8]
    leads (.linkCharacter (characterBits true 0x1E#8)) { s with
        rx := { s.rx with
          assembler := .inFrame .record (payload ++ halfBytes (crc16 (0x13#8 :: payload)))
            (crc16 (0x13#8 :: payload ++ halfBytes (crc16 (0x13#8 :: payload)))) } }
      (fun t => t.rx.rxDrops == 1#16 && t.rx.badFrames == 0#16 && t.rx.buffer.length == 4
        && t.events.flags == 0#15) = true := by decide +kernel
theorem test_receiver_resumes_hunting :
    let s := standby .consistent 7#16 0#16 []
    leads .receiverResumesHunting { s with rx := { s.rx with receiver := .awaitingLine } }
      (fun t => t.rx.receiver == .hunting) = true := by decide +kernel
/-- 3.8 event 4: ACK(401) ends, ACK(403) starts. -/
theorem test_frame_end_starts_ack :
    let s := standby .consistent 7#16 403#16 []
    leads .frameEnd { s with tx := { s.tx with ackRequest := .ack } } (fun t =>
      t.tx.serializer == .sending (.ack 403#16) && t.tx.ackRequest == .none && t.tx.pulseTimer == none)
      = true := by decide +kernel
/-- 3.8 event 5: ACK(403) ends, the pulse timer starts. -/
theorem test_frame_end_starts_pulse_timer :
    leads .frameEnd (standby .consistent 7#16 403#16 []) (fun t =>
      t.tx.serializer == .free && t.tx.pulseTimer == some 200) = true := by decide +kernel
theorem test_pulse_timer_expiry :
    let s := freed (standby .consistent 7#16 403#16 [])
    leads .pulseTimerExpiry { s with tx := { s.tx with pulseTimer := some 200 } } (fun t =>
      t.tx.serializer == .sending (.pulse { role := .standby, epoch := some 7#16, consistency := .consistent
                                            seq := 403#16 }) && !t.tx.pulseDue) = true := by decide +kernel
theorem test_hello_interval_expiry :
    let s := freed { idle with pair := { Pairing.reset with link := .handshake, helloTimer := some 1000 } }
    leads .helloIntervalExpiry s (fun t => (match t.tx.serializer with
        | .sending (.hello h) => h.seen && h.epoch == none && h.role == .none && !h.streamOpen
        | _ => false) && t.pair.helloTimer == some 1000) = true := by decide +kernel
theorem test_frame_discarded :
    leads .frameDiscarded (hearing [.nak 1#16, .ack 2#16] (standby .consistent 7#16 0#16 [])) (fun t =>
      t.rx.buffer == [.ack 2#16]) = true := by decide +kernel

/-! ### Answers and retry -/

/-- Chapter 2's windowed sending, event 4, and the ACK(507) after event 7. -/
theorem test_ack_window_example :
    leads .ackReceived (hearing [.ack 502#16]
        (active .normal (sents 500 3 ++ [write 503 65536 1 .pending]) 504#16))
      (fun t => shape t == [(502, .sent), (503, .pending)] && t.list.retryTimer == some 500) = true
    ∧ leads .ackReceived (hearing [.ack 507#16] (active .normal (sents 505 1) 506#16))
      (fun t => shape t == [(505, .sent)] && t.pair.link == .handshake) = true := by decide +kernel
/-- Chapter 2's NAK recovery, event 2. -/
theorem test_nak_recovery_example :
    leads .nakReceived (hearing [.nak 41#16]
        (active .normal (sents 41 4 ++ [write 45 65536 1 .opened]) 46#16))
      (fun t => shape t == [(41, .pending), (42, .pending), (43, .pending), (44, .pending), (45, .opened)]
        && t.list.retryTimer == none) = true := by decide +kernel
/-- The unit with a controller write to byte address 65536, classified in this role, on its way to memory. -/
def writingAs (role : Role) (policy : Policy) (s : State) : State :=
  let req : HostReq := { kind := .write, addr := 16384#22, lanes := 15#4, data := 5#32 }
  { s with
    host := { s.host with port := .forwarded req { role := role, region := some 0#4, policy := policy } false }
    mem := { s.mem with bus := some (.host req) } }
/-- A HANDOVER is refused while any mirrored write, of whatever classification role, is forwarded without a
reservation, and not by a pass-through write (R3, R90). -/
theorem test_handover_refused_by_forwarded_write :
    let reason (role : Role) (policy : Policy) :=
      (next (.handover 92#7) (writingAs role policy (active .normal [] 5#16))).mgmt.result.reason
    reason .standby .stream = .streamNotNormal ∧ reason .none .confirm = .streamNotNormal
      ∧ reason .active .stream = .streamNotNormal ∧ reason .standby .pass = .none ∧ reason .active .pass = .none := by
  decide +kernel
/-- 4.9 event 9: ACK(904) completes the handover; the held write is refused by the guard. -/
theorem test_handover_completes :
    let s := slot .handover .inProgress .committed (active .draining [rec_ 903 (.handoverMark 8#16) .sent] 904#16)
    let req : HostReq := { kind := .write, addr := 16384#22, lanes := 15#4, data := 0#32 }
    leads .ackReceived (hearing [.ack 904#16] { s with host := { s.host with
        port := .held .drain req { role := .active, region := some 0#4, policy := .stream } false } })
      (fun t => t.pair.role == .standby && t.apply.consistency == .consistent && t.apply.heldEpoch == some 8#16
        && t.apply.expected == 904#16 && t.list.nextSeq == 904#16 && t.mgmt.result.detail == .confirmed
        && t.host.response == some .fault && t.pair.link == .handshake && t.events.flags == 0x5400#15)
      = true := by decide +kernel
/-- The retry limit reached: DOWN with LINK_LOST (R38). -/
theorem test_retry_limit :
    let s := active .normal (sents 5 2) 7#16
    leads .retryTimerExpiry { s with list := { s.list with retryTimer := some 500, retryCount := 5 } } (fun t =>
      t.pair.link == .down && t.events.flags == 2#15 && shape t == [(5, .pending), (6, .pending)]) = true := by
  decide +kernel

/-! ### Pairing -/

/-- The unit of 8.6. -/
def unitB : State := { standby .consistent 21#16 5#16 [] with
  cfg := { idle.cfg with routes := 0x01400408#30 }
  events := { EventUnit.reset with flags := 0x10#15 } }

/-- 8.6 event 2. -/
theorem test_loss_timer_expiry : leads .lossTimerExpiry unitB (fun t =>
    t.pair.link == .down && t.events.flags == 0x12#15 && !t.events.alert && t.events.autoPromote == .waiting
      && t.pair.promoteTimer == some 20000) = true := by decide +kernel
/-- 8.6 event 3. -/
theorem test_promote_timer_expiry :
    leads .promoteTimerExpiry { unitB with
        pair := { unitB.pair with link := .down, promoteTimer := some 20000 }
        events := { unitB.events with flags := 0x12#15, autoPromote := .waiting } }
      (fun t => t.pair.role == .active && t.stream.mode == .closed && t.stream.epoch == 21#16
        && t.events.flags == 0x1012#15 && t.events.alert && t.events.autoPromote == .promoted) = true := by
  decide +kernel
/-- 8.6 event 6. -/
theorem test_event_clear :
    leads (.eventClear 92#7 ⟨0#8, 0#8, 0x10#8, 0x12#8⟩) { unitB with
        events := { flags := 0x1032#15, alert := true, autoPromote := .promoted, autoResync := .none } }
      (fun t => t.events.flags == 0x20#15 && t.events.alert) = true := by decide +kernel
/-- 4.9 event 11, the check passed: B, ACTIVE with an empty list at 904 in epoch 8, enters UP with a resume. -/
theorem test_enter_up_resumes :
    let s := active .normal [] 904#16
    let t := enterUp { s with
      stream := { s.stream with epoch := 8#16 }
      pair := { s.pair with link := .handshake, partner := { standbyView 904#16 with epoch := some 8#16 } } }
    (t.pair.link == .up && t.stream.mode == .normal && t.stream.epoch == 8#16 && t.events.flags == 1#15) = true := by
  decide +kernel
/-- 4.9 event 10, first half: in UP a HELLO returns the link to HANDSHAKE, a HELLO due (R78). -/
theorem test_hello_in_up :
    let h : Hello := { role := .standby, seen := true, streamOpen := false, epoch := some 7#16
                       consistency := .consistent, digest := 0#16, seqA := 904#16, seqB := 904#16 }
    leads .helloReceived (hearing [.hello h] (active .normal (sents 900 1) 901#16)) (fun t =>
      t.pair.link == .handshake && t.tx.helloDue && t.list.retryTimer == none && t.events.flags == 0#15) = true := by
  decide +kernel
/-- A PULSE of a STANDBY with the current epoch acts as an ACK (R35). -/
theorem test_pulse_as_ack :
    leads .pulseReceived (hearing [.pulse { role := .standby, epoch := some 7#16, consistency := .consistent
                                            seq := 82#16 }] (active .normal (sents 80 2) 82#16))
      (fun t => t.list.records == [] && t.pair.partner.seq == 82#16 && t.list.retryTimer == none) = true := by
  decide +kernel
/-- 4.9 event 5: the HANDOVER record 903 of epoch 8. -/
theorem test_handover_marker_append :
    let s := slot .handover .inProgress .drain (active .draining [] 903#16)
    leads .handoverMarkerAppend { s with pair := { s.pair with drainTimer := some 50000 } } (fun t =>
      t.list.records == [rec_ 903 (.handoverMark 8#16) .pending] && t.list.nextSeq == 904#16
        && t.pair.drainTimer == none && t.mgmt.result.detail == .marked && t.stream.epoch == 7#16) = true := by
  decide +kernel
/-- The drain timeout (R91): COMMAND_RESULT reads HANDOVER, REFUSED, DRAIN_TIMEOUT, drain (11.5). -/
theorem test_drain_timer_expiry :
    let s := slot .handover .inProgress .drain (active .draining (sents 900 1) 901#16)
    leads .drainTimerExpiry { s with pair := { s.pair with drainTimer := some 50000 } } (fun t =>
      t.stream.mode == .normal && itemValue 0x51#8 t == some 0x1734#32 && t.events.flags == 0x4000#15) = true := by
  decide +kernel

/-! ### Apply engine -/

/-- The unit of 5.7 that expects `n`. -/
def unitR (n : Half) (gap : Bool) (frames : List Frame) : State :=
  let s := standby .resyncing 12#16 n frames
  { s with apply := { s.apply with gap := gap } }

/-- 5.7 events 2 and 7: ahead, then duplicate. -/
theorem test_record_ahead_and_duplicate :
    leads .recordTaken (unitR 701#16 false [.record 702#16 .endMark])
      (fun t => t.apply.gap && t.tx.ackRequest == .nak && t.apply.expected == 701#16) = true
    ∧ leads .recordTaken (unitR 703#16 false [.record 702#16 .endMark])
      (fun t => !t.apply.gap && t.tx.ackRequest == .ack && t.apply.expected == 703#16
        && t.apply.consistency == .resyncing) = true := by decide +kernel
/-- 5.7 event 8: the END in turn makes the copy CONSISTENT. -/
theorem test_record_end_applied :
    leads .recordTaken (unitR 703#16 false [.record 703#16 .endMark])
      (fun t => t.apply.expected == 704#16 && t.apply.consistency == .consistent && t.tx.ackRequest == .ack)
      = true := by decide +kernel
/-- 5.7, the supposition: memory answers FAULT to the second word of record 701. -/
theorem test_apply_fault :
    let s := unitR 701#16 true []
    leads (.applyWriteAnswer .fault) { s with
        apply := { s.apply with
          held := some { seq := 701#16, start := 16384#22, words := [word 1, word 2, word 3], next := 1 } }
        mem := { s.mem with bus := some (.internal (.applyWrite 16385#22 15#4 2#32) false) } }
      (fun t => t.apply.expected == 702#16 && t.apply.consistency == .inconsistent && t.apply.held == none
        && t.apply.lastFault == { cause := .memory, seq := 701#16, addr := 16385#22 }
        && t.events.flags == 0x800#15 && t.tx.ackRequest == .ack && t.mem.waiting == none) = true := by
  decide +kernel

/-! ### Resync -/

/-- The list of 6.7 from record 305 on. -/
def list67 : List Rec :=
  [rec_ 305 (.beginMark 9#16 .full) .sent, sync 306 57344 16 .sent, sync 307 57408 16 .sent, sync 308 57472 16 .sent]

/-- The unit of 6.7. -/
def unit67 (records : List Rec) (nextSeq : Half) (dirty : List Nat) (taken : Bool) : State := { active .resync
    (list67 ++ records) nextSeq with
  cfg := { idle.cfg with regions := setRegion table 3#4 RegionEntry.reset }
  stream := { mode := .resync, isOpen := true, epoch := 9#16, basisEpoch := 0#16, basisValid := false }
  dirty := dirty
  walker := { Walker.reset with run := .running, cursor := 16, taken := taken, outcome := .running, epoch := 9#16 } }

/-- 6.7 event 1. -/
theorem test_walker_takes_block :
    leads .walkerTakeBlock (unit67 [write 309 81920 1 .opened] 310#16 [16, 17] false) (fun t =>
      t.dirty == [17] && t.walker.taken && t.walker.cursor == 16 && t.walker.nextChunk == 0) = true := by
  decide +kernel
/-- 6.7 event 2. -/
theorem test_walker_opens_sync :
    leads .walkerOpenSync (unit67 [write 309 81920 1 .opened] 310#16 [17] true) (fun t =>
      t.list.records.drop 4 == [write 309 81920 1 .pending, sync 310 65536 0 .opened] && t.list.nextSeq == 311#16
        && t.mem.waiting == some (.walkerRead 16384#22)) = true := by decide +kernel
/-- A read of the resync before is still in progress, disowned: the walker opens its SYNC record and asks for the first
word only at that answer (R151, R153; log 36). -/
theorem test_walker_asks_after_disowned_answer :
    let s := unit67 [] 310#16 [17] true
    leads .walkerOpenSync { s with mem := { s.mem with bus := some (.internal (.walkerRead 20480#22) true) } } (fun t =>
      t.list.records.drop 4 == [sync 310 65536 0 .opened] && t.mem.waiting == none
        && leads (.walkerReadAnswer (.ok 9#32)) t (fun u => u.list.records == t.list.records && u.mem.bus == none
          && u.mem.waiting == some (.walkerRead 16384#22))) = true := by decide +kernel
/-- 6.7 event 6: block 17 is still marked, so the write is skipped and its reservation returned. -/
theorem test_write_to_marked_block_skipped :
    leads (.hostMemoryAnswer (.ok 0#32)) (writing 69632 0#4 .stream true
        (unit67 [write 309 81920 1 .pending, sync 310 65536 6 .opened] 311#16 [17] true))
      (fun t => t.list.nextSeq == 311#16 && !t.list.reserved && t.host.response == some .writeOk) = true := by
  decide +kernel
/-- 6.7 event 8: the sixteenth word closes 310; the walker goes to chunk 1. -/
theorem test_walker_sixteenth_word :
    let s := unit67 [write 309 81920 1 .pending, sync 310 65536 15 .opened, write 311 65544 1 .pending] 312#16 [17] true
    leads (.walkerReadAnswer (.ok 1#32))
      { s with mem := { s.mem with bus := some (.internal (.walkerRead 16399#22) false) } }
      (fun t => t.list.records.drop 4
          == [write 309 81920 1 .pending, sync 310 65536 16 .pending, write 311 65544 1 .pending]
        && t.walker.nextChunk == 1 && t.mem.waiting == none) = true := by decide +kernel
/-- 6.7, the supposition: the read of word 9 is answered FAULT. -/
theorem test_walker_read_fault :
    let s := unit67 [write 309 81920 1 .pending, sync 310 65536 9 .opened, write 311 65544 1 .pending,
      write 312 65580 1 .opened] 313#16 [17] true
    leads (.walkerReadAnswer .fault)
      { s with mem := { s.mem with bus := some (.internal (.walkerRead 16393#22) false) } }
      (fun t => t.list.records.drop 4
          == [write 309 81920 1 .pending, write 310 65544 1 .pending, write 311 65580 1 .pending]
        && t.list.nextSeq == 312#16 && t.stream.mode == .normal && t.dirty == [16, 17] && t.walker.cursor == 16
        && t.walker.outcome == .failed && t.events.flags == 0x100#15) = true := by decide +kernel
theorem test_marker_append :
    let s := unit67 [] 309#16 [] false
    leads .markerAppend { s with list := { s.list with waitingMarker := some .endMark } } (fun t =>
      t.list.records.drop 4 == [rec_ 309 .endMark .pending] && t.list.waitingMarker == none) = true := by
  decide +kernel
/-- The reflex on a unit that has left every stream: NO_EFFECT (R165). -/
theorem test_auto_resync_no_effect :
    let s := active .tracking [] 5#16
    leads .autoResyncTaken { s with walker := { s.walker with autoRequest := true } } (fun t =>
      t.events.autoResync == .noEffect && !t.walker.autoRequest && t.stream.epoch == 7#16) = true := by
  decide +kernel

/-! ### The management session of 9.7 -/

/-- The unit of 9.7. -/
def unit97 : State := slot .resync .done .none (active .normal [] 5#16)

/-- 9.7 events 1 and 3. -/
theorem test_window_locked_and_short_write :
    leads (.itemWrite 92#7 0x42#8 (low 4#8)) unit97 (fun t =>
      t.mgmt.access == .locked && t.mgmt.selected == 0x42#8 && t.cfg.window == 8#5) = true
    ∧ leads (.shortWrite 92#7 0x43#8 [0#8, 0#8, 3#8]) unit97 (fun t =>
      t.mgmt.access == .short && t.mgmt.selected == 0x43#8 && t.cfg.retryTimeout == 500#16) = true := by
  decide +kernel
/-- 9.7 event 4. -/
theorem test_item_write : leads (.itemWrite 92#7 0x43#8 ⟨0#8, 0#8, 3#8, 0x20#8⟩) unit97 (fun t =>
    t.mgmt.access == .ok && t.cfg.retryTimeout == 800#16 && t.mgmt.result == unit97.mgmt.result) = true := by
  decide +kernel
/-- 9.7 event 2: ACCESS_STATUS returns LOCKED and stays. -/
theorem test_item_read :
    leads (.itemRead 92#7 4) { unit97 with mgmt := { unit97.mgmt with selected := 0x22#8, access := .locked } }
      (fun t => t.mgmt.readBytes == [0#8, 0#8, 0#8, 4#8] && t.mgmt.access == .locked) = true := by decide +kernel
theorem test_item_select : leads (.itemSelect 92#7 0x51#8) unit97 (fun t =>
    t.mgmt.selected == 0x51#8 && t.mgmt.access == .ok && t.mgmt.acked == 2) = true := by decide +kernel
/-- Every byte of a write is acknowledged, however many; of a read the address byte alone, and nothing of a
transaction to another target (R169, R170). -/
theorem test_acknowledgements :
    (next (.shortWrite 92#7 0x43#8 (List.replicate 9 0#8)) unit97).mgmt.acked = 11
      ∧ (next (.itemWrite 92#7 0x42#8 (low 4#8)) unit97).mgmt.acked = 6
      ∧ (next (.resync 92#7) unit97).mgmt.acked = 6 ∧ (next (.itemRead 92#7 9) unit97).mgmt.acked = 1
      ∧ (next (.resync 93#7) (next (.itemRead 92#7 9) unit97)).mgmt.acked = 0 := by decide +kernel
/-- 9.7 event 5 and 4.9 event 1. -/
theorem test_handover_accepted :
    leads (.handover 92#7) (active .normal (sents 900 2 ++ [write 902 65536 1 .opened]) 903#16) (fun t =>
      t.stream.mode == .draining && t.mgmt.result.state == .inProgress && t.mgmt.result.detail == .drain
        && t.pair.drainTimer == some 50000 && shape t == [(900, .sent), (901, .sent), (902, .pending)]) = true := by
  decide +kernel
/-- 9.7 event 6: COMMAND_RESULT with busy refusal RESYNC (11.5: code 5 at bits 19 to 16). -/
theorem test_resync_busy :
    leads (.resync 92#7) (slot .handover .inProgress .drain (active .draining (sents 900 1) 901#16)) (fun t =>
      t.mgmt.access == .ok && itemValue 0x51#8 t == some 0x51014#32 && t.events.flags == 0x4000#15
        && t.stream.mode == .draining) = true := by decide +kernel
/-- 9.7 event 11. -/
theorem test_region_mode_locked :
    leads (.regionMode 92#7 3#4 (low 0x21#8)) (standby .consistent 8#16 904#16 []) (fun t =>
      t.mgmt.access == .locked && t.mgmt.selected == 0x67#8 && t.cfg.regions == table) = true := by decide +kernel
/-- Base granule 256 and count 64 is 0x0100003F (R201). -/
theorem test_region_span : leads (.regionSpan 92#7 15#4 ⟨1#8, 0#8, 0#8, 0x3F#8⟩) idle (fun t =>
    t.mgmt.access == .ok && regionBase (regionAt t.cfg.regions 15#4) == 65536
      && regionLength (regionAt t.cfg.regions 15#4) == 16384) = true := by decide +kernel
/-- Granule number 65500 and count 64 pass 65536 (11.6). -/
theorem test_region_span_beyond : leads (.regionSpan 92#7 0#4 ⟨0xFF#8, 0xDC#8, 0#8, 0x3F#8⟩) idle (fun t =>
    t.mgmt.access == .badValue && t.cfg == idle.cfg) = true := by decide +kernel
/-- REFLEX for an event that has none makes the whole value invalid (R160). -/
theorem test_event_routes_bad : leads (.eventRoutes 92#7 (low 2#8)) idle (fun t =>
    t.mgmt.access == .badValue && t.cfg.routes == 0#30) = true := by decide +kernel
/-- A rate change while the link is enabled is LOCKED (R51). -/
theorem test_link_control_locked : leads (.linkControl 92#7 (low 0x21#8)) idle (fun t =>
    t.mgmt.access == .locked && t.cfg.linkRate == .r25) = true := by decide +kernel
theorem test_set_active : leads (.setActive 92#7) idle (fun t =>
    t.pair.role == .active && t.stream.mode == .closed && t.events.flags == 0x5000#15
      && itemValue 0x51#8 t == some 0x21#32) = true := by decide +kernel
/-- SET_STANDBY on a STANDBY unit is DONE with no change and no ROLE_CHANGED (R179). -/
theorem test_set_standby : leads (.setStandby 92#7) (standby .consistent 7#16 5#16 []) (fun t =>
    t.pair.role == .standby && t.apply.heldEpoch == some 7#16 && t.events.flags == 0x4000#15) = true := by
  decide +kernel
theorem test_set_none : leads (.setNone 92#7) (active .normal (sents 5 1) 6#16) (fun t =>
    t.pair.role == .none && t.list.records == [] && t.list.nextSeq == 6#16 && t.pair.link == .handshake
      && t.events.flags == 0x5000#15) = true := by decide +kernel
/-- The result and COMMAND_END of a RESTART are not seen afterwards (9.5). -/
theorem test_restart : leads (.restart 92#7) (active .normal (sents 5 1) 6#16) (fun t =>
    t.mgmt.result.state == .idle && t.events.flags == 0#15 && t.pair.role == .none && t.stream.epoch == 7#16
      && t.cfg == idle.cfg) = true := by decide +kernel
theorem test_reload : leads (.reload 92#7) idle (fun t =>
    t.loader.state == .loading && t.loader.portOut == List.replicate 6 false ++ [true, true] ++ List.replicate 16 false
      && itemValue 0x51#8 t == some 0x17#32) = true := by decide +kernel
theorem test_clear_counters :
    let s := active .normal [] 5#16
    leads (.clearCounters 92#7) { s with
        rx := { s.rx with charErrors := 3#16, badFrames := 65535#16, rxDrops := 1#16 }
        list := { s.list with retransmits := 21#16, holds := 2#16 } }
      (fun t => [0x28, 0x29, 0x2A, 0x2B, 0x2C].all fun i => itemValue (BitVec.ofNat 8 i) t == some 0#32)
      = true := by decide +kernel

/-! ### Witnesses: for each statement with hypotheses, states and operands that meet them

Each theorem names its statement; each conjunct is one clause's hypotheses at a concrete state, at a boundary value
where the clause has a range. -/

/-- Whether a command answers a state with another configuration. -/
def changesCfg (c : Instr) (s : State) : Bool := leads c s fun t => t.cfg != s.cfg

theorem test_witness_StepRunsTheFrontCommand :
    { idle with pending := [.memoryGrant, .coldReset] }.pending = .memoryGrant :: [.coldReset] ∧ idle.pending = [] := by
  decide
theorem test_witness_WhatNoCommandTouches :
    completes .memoryGrant idle = true ∧ changesCfg (.itemWrite 92#7 0x42#8 (low 0x10#8)) idle = true
      ∧ loadingIsNone (active .normal [] 5#16) = true ∧ (active .normal [] 5#16).pair.role ≠ .none
      ∧ completes (.regionSpan 92#7 0#4 (low 0#8)) (active .normal [] 5#16) = true := by decide +kernel
theorem test_witness_ColdResetAndItsEnd :
    State.reset.phase = .cold ∧ State.reset.wrst = false
      ∧ { State.reset with wrst := true }.phase = .cold := by decide

/-- A running ACTIVE unit whose load has failed and whose serializer sends a frame. -/
def beforeWarm : State := { writing 131072 3#4 .confirm true (active .normal (sents 80 1) 81#16) with
  mem := { bus := some (.internal (.walkerRead 7#22) false), waiting := none, fairness := 0 }
  loader := { Loader.reset with state := .failed, failIndex := 255#8 } }

theorem test_witness_WarmResetValues :
    { idle with phase := .warm, wrst := true }.wrst = true
    ∧ (beforeWarm.wrst = false ∧ beforeWarm.phase ≠ .cold ∧ beforeWarm.loader.state ≠ .loading
      ∧ beforeWarm.tx.serializer = .sending (.ack 0#16)
      ∧ beforeWarm.mem.bus = some (.internal (.walkerRead 7#22) false)
      ∧ beforeWarm.host.port = .forwarded { kind := .write, addr := 32768#22, lanes := 15#4, data := 5#32 }
          { role := .active, region := some 3#4, policy := .confirm } false ∧ beforeWarm.list.reserved = true)
    ∧ (loading.wrst = false ∧ loading.phase ≠ .cold ∧ loading.loader.state = .loading
      ∧ loading.tx.serializer = .free) := by decide

/-- The unit that a warm reset leaves. -/
def warmed : State := next .warmReset (active .normal (sents 80 1) 81#16)

theorem test_witness_WarmResetEndEntersRoleAndLink :
    (warmed.phase = .warm ∧ warmed.wrst = true ∧ warmed.pair.role = .none ∧ warmed.pair.link = .off
      ∧ warmed.loader.state ≠ .loading ∧ warmed.cfg.linkEnable = true ∧ warmed.tx.serializer ≠ .free)
    ∧ (let s := next .warmReset idle;
      s.phase = .warm ∧ s.wrst = true ∧ s.pair.role = .none ∧ s.pair.link = .off ∧ s.cfg.linkEnable = true
        ∧ s.tx.serializer = .free)
    ∧ (let s := next .warmReset loading;
      s.phase = .warm ∧ s.wrst = true ∧ s.pair.role = .none ∧ s.pair.link = .off ∧ s.loader.state = .loading
        ∧ s.cfg.linkEnable = false)
    ∧ (let s := next (.coldResetEnd 0#2 true) { State.reset with wrst := true };
      s.wrst = true ∧ s.phase = .running ∧ s.loader.state = .loading ∧ s.loader.reading = false)
    ∧ (let s := next (.coldResetEnd 0#2 false) { State.reset with wrst := true };
      s.wrst = true ∧ s.phase = .running ∧ s.loader.state ≠ .loading)
    ∧ { State.reset with wrst := true }.phase = .cold ∧ idle.wrst = false := by decide +kernel
theorem test_witness_RestartIsAWarmReset :
    acknowledges 92#7 unit97 = true ∧ unit97.loader.state ≠ .loading ∧ unit97.mgmt.result.state ≠ .inProgress := by
  decide
theorem test_witness_ImageStagedEntryByEntry :
    1 ≤ (List.replicate 1 (0x44#8, 5#32)).length ∧ (List.replicate 255 (0x44#8, 5#32)).length ≤ 255
      ∧ 1 ≤ (List.replicate 255 (0x44#8, 5#32)).length := by decide +kernel

/-- The header of an image of one entry whose check is wrong. -/
def wrongCheck : List Byte := (imageOf [(0x44#8, 5#32)]).set 7 0#8

theorem test_witness_ImagesRefused :
    ((List.replicate 254 (0x44#8, 15#32)).length < 255
      ∧ stage 1 idle.cfg (List.replicate 254 (0x44#8, 15#32)) = .commits { idle.cfg with retryLimit := 15#4 }
      ∧ (judgeConfig .none { idle.cfg with retryLimit := 15#4 } 0x44#8 16#32).isOk = false
      ∧ (judgeConfig .none { idle.cfg with retryLimit := 15#4 } 0x44#8 1#32).isOk = true)
    ∧ [0x4D#8, 0x52#8, 0x49#8, 0x4E#8] ≠ [0x4D#8, 0x52#8, 0x49#8, 0x4D#8]
    ∧ 255 < (256#16).toNat
    ∧ (1 ≤ (1#16).toNat ∧ (1#16).toNat ≤ 255 ∧ 5 * (1#16).toNat ≤ (wrongCheck.drop 8).length
      ∧ crc16 ((wrongCheck.drop 8).take 5) ≠ 0#16)
    ∧ [0x31#8, 0x33#8, 0x37#8, 0x39#8, 0x3F#8, 0x4D#8, 0x5F#8, 0x80#8].all (fun item =>
      itemKind item != some .config) = true := by decide +kernel

/-- `loading` in a RELOAD that reads the image of 11.6. -/
def reloading : State := slot .reload .inProgress .none { loading with loader := { loading.loader with failIndex := 0#8 } }

/-- What the image of 11.6 commits over the defaults. -/
def staged : Settings :=
  match judgeImage Settings.reset (imageBits entries) with
  | .commits cfg => cfg
  | _ => Settings.reset

theorem test_witness_LoadCommits :
    (reloading.phase = .running ∧ reloading.loader.state = .loading ∧ reloading.loader.reading = true
      ∧ reloading.pair.role = .none ∧ inactiveEmpty reloading = true ∧ standbyOnly reloading = true
      ∧ handoverIsActive reloading = true
      ∧ judgeImage reloading.cfg (imageBits entries) = .commits staged ∧ staged.startRole ≠ .none
      ∧ reloading.cfg.linkEnable = false ∧ staged.linkEnable = true
      ∧ reloading.mgmt.result.command = some .reload ∧ reloading.mgmt.result.state = .inProgress)
    ∧ (let s := { loading with cfg := { staged with startRole := .none }, pair := { Pairing.reset with link := .up } };
      s.phase = .running ∧ s.loader.state = .loading ∧ s.loader.reading = true ∧ s.pair.role = .none
      ∧ inactiveEmpty s = true ∧ standbyOnly s = true ∧ handoverIsActive s = true ∧ s.cfg.linkEnable = true
      ∧ judgeImage s.cfg (imageBits [(0x38#8, 0x20#32)]) = .commits { s.cfg with linkEnable := false }
      ∧ judgeImage s.cfg (imageBits [(0x38#8, 0x20#32), (0x38#8, 0x11#32)]) = .commits { s.cfg with linkRate := .r25 }
      ∧ judgeImage s.cfg (imageBits [(0x44#8, 6#32)]) = .commits s.cfg ∧ s.cfg.linkRate = .r50
      ∧ s.cfg.startRole = .none) := by decide +kernel
theorem test_witness_LoadFailsAndCommitsNothing :
    (reloading.phase = .running ∧ reloading.loader.state = .loading ∧ reloading.loader.reading = true
      ∧ judgeImage reloading.cfg [] = .absent ∧ reloading.mgmt.result.command = some .reload
      ∧ reloading.mgmt.result.state = .inProgress)
    ∧ (loading.phase = .running ∧ loading.loader.reading = true
      ∧ judgeImage loading.cfg (imageBits [(0x44#8, 16#32)]) = .failed 1#8
      ∧ ¬(loading.mgmt.result.command = some .reload ∧ loading.mgmt.result.state = .inProgress)) := by decide +kernel

/-- A table entry's region holds a byte address, as LookupFindsTheLowestEntry writes it. -/
def holdsAt (t : Vector RegionEntry 16) (m : BitVec 4) (a : Nat) : Bool :=
  (regionAt t m).enabled && decide (256 * (regionAt t m).base.toNat ≤ a)
    && decide (a < 256 * (regionAt t m).base.toNat + 256 * ((regionAt t m).countLess1.toNat + 1))

theorem test_witness_LookupFindsTheLowestEntry :
    (holdsAt lookupTable 5#4 77823 = true ∧ ∀ m : Fin 5, holdsAt lookupTable (BitVec.ofNat 4 m) 77823 = false)
    ∧ ∀ m : Fin 16, holdsAt lookupTable (BitVec.ofNat 4 m) 77824 = false := by decide +kernel

theorem test_witness_HostRequestForwardedOrRefused :
    (State.reset.phase ≠ .running ∧ beforeWarm.host.port ≠ .idle)
    ∧ (idle.phase = .running ∧ idle.host.port = .idle ∧ idle.pair.role = .none)
    ∧ (let s := standby .consistent 7#16 0#16 [];
      s.phase = .running ∧ s.host.port = .idle ∧ s.pair.role = .standby
        ∧ guardAt s.cfg.regions (4 * (16384#22).toNat) = .guarded ∧ guardAt s.cfg.regions (4 * (18431#22).toNat) = .guarded
        ∧ guardAt s.cfg.regions (4 * (18432#22).toNat) = .opened)
    ∧ (let s := active .normal [] 5#16;
      s.pair.role = .active ∧ policyAt s.cfg.regions (4 * (18432#22).toNat) = .pass)
    ∧ (active .tracking [] 5#16).stream.mode = .tracking ∧ (active .closed [] 5#16).stream.mode = .closed := by
  decide +kernel

/-- A list of 63 records with a reservation, or of 64 records. -/
def fullList (n : Nat) : State := active .normal (sents 0 n) (BitVec.ofNat 16 n)

theorem test_witness_MirroredWriteReservedHeldOrSpilled :
    ((fullList 63).phase = .running ∧ (fullList 63).host.port = .idle ∧ (fullList 63).pair.role = .active
      ∧ policyAt (fullList 63).cfg.regions (4 * (16384#22).toNat) ≠ .pass ∧ (fullList 63).stream.mode = .normal
      ∧ (fullList 63).list.records.length + (fullList 63).list.reserved.toNat < 64)
    ∧ (let s := { fullList 63 with list := { (fullList 63).list with reserved := true } };
      64 ≤ s.list.records.length + s.list.reserved.toNat ∧ s.pair.link = .up ∧ s.host.port = .idle)
    ∧ (let s := { fullList 64 with pair := { (fullList 64).pair with link := .down } };
      64 ≤ s.list.records.length + s.list.reserved.toNat ∧ s.pair.link ≠ .up ∧ s.pair.link ≠ .handshake
        ∧ s.host.port = .idle)
    ∧ (active .draining [] 5#16).stream.mode = .draining ∧ (active .draining [] 5#16).host.port = .idle := by
  decide +kernel

/-- A forwarded write with the walker's read waiting beside it, at a fairness count. -/
def contended (n : Nat) : State := { writing 65536 0#4 .stream true (active .resync [] 5#16) with
  mem := { bus := none, waiting := some (.walkerRead 7#22), fairness := n } }

theorem test_witness_ArbiterGrants :
    ((contended 3).phase ≠ .cold ∧ (contended 3).mem.bus = none
      ∧ (contended 3).host.port = .forwarded { kind := .write, addr := 16384#22, lanes := 15#4, data := 5#32 }
          { role := .active, region := some 0#4, policy := .stream } false
      ∧ (contended 3).mem.waiting = some (.walkerRead 7#22) ∧ (contended 3).mem.fairness < 4
      ∧ (contended 4).mem.fairness = 4)
    ∧ (let s := { contended 0 with mem := MemPort.reset };
      s.mem.bus = none ∧ s.mem.waiting = none ∧ s.host.port ≠ .idle)
    ∧ (let s := { contended 4 with host := HostPort.reset };
      s.mem.bus = none ∧ s.host.port = .idle ∧ s.mem.waiting.isSome = true)
    ∧ leads .memoryGrant (contended 4) (fun t => t.mem.waiting == none) = true
    ∧ completes .coldReset (contended 4) = true
    ∧ completes .warmReset (contended 4) = true ∧ (contended 4).wrst = false := by decide +kernel

/-- A write to `a` under `policy`, answered in stream mode `mode`, with a reservation. -/
def answering (mode : StreamMode) (policy : Policy) (a : Nat) (dirty : List Nat) : State :=
  { writing a 3#4 policy true (active mode [] 5#16) with dirty := dirty }

theorem test_witness_AnswersWithoutCapture :
    (let s := answering .closed .confirm 131072 [];
      s.mem.bus.isSome = true ∧ s.host.port = .forwarded { kind := .write, addr := 32768#22, lanes := 15#4, data := 5#32 }
          { role := .active, region := some 3#4, policy := .confirm } false
        ∧ s.mem.bus = some (.host { kind := .write, addr := 32768#22, lanes := 15#4, data := 5#32 })
        ∧ s.stream.mode = .closed)
    ∧ (answering .tracking .stream 65536 []).pair.role = .active ∧ (answering .tracking .stream 65536 []).stream.mode = .tracking
    ∧ (let s := answering .resync .stream 65536 [16];
      s.pair.role = .active ∧ s.stream.mode = .resync ∧ (16384#22).toNat / 1024 ∈ s.dirty)
    ∧ (let s := writing 65536 0#4 .pass false (active .normal [] 5#16);
      s.host.port = .forwarded { kind := .write, addr := 16384#22, lanes := 15#4, data := 5#32 }
        { role := .active, region := some 0#4, policy := .pass } false) := by decide +kernel

/-- A write to the word after an OPEN record of `n` words. -/
def joining (n : Nat) : State :=
  writing (65536 + 4 * n) 0#4 .stream true (active .normal (sents 9 1 ++ [write 10 65536 n .opened]) 11#16)

theorem test_witness_StreamWriteJoins :
    [1, 15].all (fun n =>
      (joining n).list.records == sents 9 1 ++ write 10 65536 n .opened :: []
        && (joining n).mem.bus == some (.host { kind := .write, addr := BitVec.ofNat 22 (16384 + n), lanes := 15#4, data := 5#32 })
        && (joining n).host.port == .forwarded
          { kind := .write, addr := BitVec.ofNat 22 (16384 + n), lanes := 15#4, data := 5#32 }
          { role := .active, region := some 0#4, policy := .stream } false
        && (joining n).pair.role == .active && (joining n).stream.mode == .normal
        && (sents 9 1).all (fun r => !isOpenWrite r)
        && (write 10 65536 n .opened).body == .data .write 0#4 16384#22 (List.replicate n (word 1))
        && (BitVec.ofNat 22 (16384 + n)).toNat == (16384#22).toNat + (List.replicate n (word 1)).length
        && decide ((List.replicate n (word 1)).length < (joining n).cfg.coalesceLimit.toNat)) = true := by
  decide +kernel

/-- Whether a record is an OPEN WRITE record whose next word is at a word address and that has room for it. -/
def joinable (a limit : Nat) (r : Rec) : Bool :=
  match r.body with
  | .data .write _ start words =>
      r.state == .opened && a == start.toNat + words.length && decide (words.length < limit)
  | _ => false

theorem test_witness_StreamWriteOpensARecord :
    ((joining 16).stream.mode = .normal ∧ (joining 16).pair.role = .active ∧ (joining 16).list.reserved = true
      ∧ (joining 16).list.records.all (fun r => !joinable 16400 16 r) = true)
    ∧ (let s := writing 65536 0#4 .stream true (active .draining (sents 0 64) 64#16);
      s.stream.mode = .draining ∧ s.pair.role = .active ∧ s.list.reserved = true)
    ∧ (let s := writing 65536 0#4 .stream false (active .resync (sents 0 63) 63#16);
      s.stream.mode = .resync ∧ (16384#22).toNat / 1024 ∉ s.dirty
        ∧ s.list.records.length < 64
        ∧ s.list.records.all (fun r => !joinable 16384 16 r) = true)
    ∧ (let s := writing 65536 0#4 .stream false (active .normal (sents 0 64) 64#16);
      s.stream.mode = .normal ∧ s.list.reserved = false ∧ 64 ≤ s.list.records.length
        ∧ s.list.records.all (fun r => !joinable 16384 16 r) = true) := by decide +kernel
/-- The unit with its forwarded write condemned. -/
def condemned (s : State) : State :=
  let port : PortState := match s.host.port with
    | .forwarded q c _ => .forwarded q c true
    | p => p
  { s with host := { s.host with port := port } }

theorem test_witness_ConfirmWriteCaptured :
    (let s := writing 131072 3#4 .confirm true (active .resync (sents 80 1) 81#16);
      s.host.port = .forwarded { kind := .write, addr := 32768#22, lanes := 15#4, data := 5#32 }
        { role := .active, region := some 3#4, policy := .confirm } false ∧ s.pair.role = .active
        ∧ s.stream.mode = .resync ∧ s.list.reserved = true
        ∧ s.mem.bus = some (.host { kind := .write, addr := 32768#22, lanes := 15#4, data := 5#32 }))
    ∧ (let s := writing 131072 3#4 .confirm false (active .draining (sents 0 63) 63#16);
      s.stream.mode = .draining ∧ s.list.reserved = false ∧ s.list.records.length < 64)
    ∧ (let s := condemned (writing 131072 3#4 .confirm false (active .normal (sents 0 63) 63#16));
      s.stream.mode = .normal ∧ s.list.records.length < 64 ∧ s.mem.bus.isSome = true
        ∧ s.host.port = .forwarded { kind := .write, addr := 32768#22, lanes := 15#4, data := 5#32 }
          { role := .active, region := some 3#4, policy := .confirm } true)
    ∧ (let s := writing 131072 3#4 .confirm false (active .normal (sents 0 64) 64#16);
      s.list.reserved = false ∧ 64 ≤ s.list.records.length ∧ s.stream.mode ≠ .draining
        ∧ (condemned s).list.records.length = s.list.records.length) := by decide +kernel

/-- A controller write to word 16384. -/
def req0 : HostReq := { kind := .write, addr := 16384#22, lanes := 15#4, data := 5#32 }

/-- Its classification by region 0. -/
def cls0 : HostClass := { role := .active, region := some 0#4, policy := .stream }

/-- The unit with a held write. -/
def holding (k : HoldKind) (s : State) : State := { s with
  host := { s.host with port := .held k req0 cls0 true }, list := { s.list with holdTimer := some 10000 } }

/-- An ACTIVE unit that withholds the response to a CONFIRM write. -/
def withholding : State := { fullList 1 with
  host := { HostPort.reset with port := .withheld req0, confirmTimer := some 5000 } }

theorem test_witness_HostPathTimersAndHoldEnds :
    { idle with list := { ReplayList.reset with coalesceTimer := some 4 } }.list.coalesceTimer = some 4
    ∧ (withholding.host.confirmTimer = some 5000 ∧ withholding.host.port = .withheld req0)
    ∧ (let s := holding .list (fullList 63);
      s.host.port = .held .list req0 cls0 true ∧ s.list.records.length + s.list.reserved.toNat < 64)
    ∧ (let s := holding .list (fullList 64);
      s.host.port = .held .list req0 cls0 true ∧ s.list.holdTimer = some 10000 ∧ req0.kind = .write
        ∧ s.pair.role = .active ∧ policyAt s.cfg.regions (4 * req0.addr.toNat) ≠ .pass
        ∧ s.pair.link = .up ∧ s.pair.partner.role = .standby) := by decide +kernel
theorem test_witness_HeldWriteSettles :
    (let s := holding .list (fullList 64);
      s.host.port = .held .list req0 cls0 true ∧ req0.kind = .write ∧ s.pair.role = .active
        ∧ s.stream.mode = .normal ∧ s.pair.link = .up)
    ∧ (let s := holding .list { fullList 64 with pair := { (fullList 64).pair with link := .down } };
      s.pair.role = .active ∧ s.stream.mode = .normal ∧ ¬(s.pair.link = .up ∨ s.pair.link = .handshake))
    ∧ (let s := holding .drain (active .draining [] 5#16);
      s.host.port = .held .drain req0 cls0 true ∧ s.pair.role = .active ∧ s.stream.mode = .draining)
    ∧ (let s := holding .drain (standby .consistent 7#16 0#16 []);
      s.pair.role = .standby ∧ guardAt s.cfg.regions (4 * req0.addr.toNat) = .guarded)
    ∧ (holding .list idle).pair.role = .none
    ∧ (let s := holding .drain (fullList 63);
      s.pair.role = .active ∧ s.stream.mode = .normal ∧ policyAt s.cfg.regions (4 * req0.addr.toNat) ≠ .pass
        ∧ s.list.records.length + s.list.reserved.toNat < 64)
    ∧ (let s := holding .drain (fullList 64);
      s.pair.role = .active ∧ s.stream.mode = .normal ∧ 64 ≤ s.list.records.length + s.list.reserved.toNat
        ∧ s.pair.link = .up) := by decide +kernel

theorem test_witness_CharacterCoding :
    (characterBits false 0xFF#8).getLsbD 0 = false
      ∧ symbolOf (characterBits false 0xFF#8) = .data 0xFF#8
      ∧ (characterBits true 0x11#8 ^^^ 0x400#12).getLsbD 0 = false
      ∧ (active .normal [] 5#16).tx.serializer = .sending (.ack 0#16) ∧ idle.tx.serializer = .free
      ∧ (next (.linkControl 92#7 (low 0x10#8)) (active .normal [] 5#16)).tx.serializer = .aborting := by decide +kernel

/-- A receiver that hunts, with `n` frames in its buffer. -/
def receiving (n : Nat) (a : Assembler) : State :=
  let s := standby .consistent 7#16 0#16 (List.replicate n (.ack 0#16))
  { s with rx := { s.rx with assembler := a } }

theorem test_witness_FrameReceivedWhole :
    frameWf (.record 5#16 (.data .write 0#4 4194288#22 (List.replicate 16 (word 1)))) = true
    ∧ (receiving 3 .hunt).rx.receiver = .hunting ∧ (receiving 3 .hunt).rx.assembler = .hunt
    ∧ (receiving 4 .discard).rx.assembler = .discard ∧ ¬(receiving 4 .discard).rx.buffer.length < 4
    ∧ [Role.none, .active, .standby][2]? = some .standby ∧ [Consistency.inconsistent, .resyncing, .consistent][2]? = some .consistent
    ∧ (List.replicate 16 (word 1)).length ≤ 16 := by
  decide +kernel
/-- The payload of a WRITE record of three words, written out from 11.2: the fourth mask nibble is 0. -/
theorem test_record_payload_of_three_words :
    framePayload (.record 0x0102#16 (.data .write 3#4 32768#22
      [⟨15#4, 0x01020304#32⟩, ⟨1#4, 5#32⟩, ⟨8#4, 0xFF000000#32⟩]))
      = [1, 2, 1, 3, 2, 0, 0, 3, 0x1F, 8, 1, 2, 3, 4, 0, 0, 0, 5, 0xFF, 0, 0, 0] := by decide +kernel
theorem test_witness_AssemblerHandlesEachInput :
    (0xFFF#12).getLsbD 0 = true
    ∧ (characterBits false 0#8).getLsbD 0 = false ∧ symbolOf (characterBits false 0#8) = .data 0#8
    ∧ symbolOf (characterBits false 0#8 ^^^ 0x400#12) = .error ∧ symbolOf 0x400#12 = .error
    ∧ symbolOf (characterBits true 0x11#8) = .sof .hello ∧ symbolOf (characterBits true 0x1F#8) = .abort
    ∧ (receiving 0 (.inFrame .ack (List.replicate 81 0#8) 0#16)).rx.assembler
        = .inFrame .ack (List.replicate 81 0#8) 0#16 ∧ (List.replicate 81 0#8).length < 82
    ∧ 82 ≤ (List.replicate 82 0#8).length ∧ (receiving 0 .discard).rx.assembler = .discard := by decide +kernel

/-- An ACK frame's data characters: sequence 5 and its CRC. -/
def ackData : List Byte := [0#8, 5#8] ++ halfBytes (crc16 (sofCode .ack :: [0#8, 5#8]))

theorem test_witness_FrameJudgedAtEof :
    let eof := characterBits true 0x1E#8
    let s (n : Nat) (data : List Byte) := receiving n (.inFrame .ack data (crc16 (sofCode .ack :: data)))
    eof.getLsbD 0 = false ∧ symbolOf eof = .eof ∧ (s 3 ackData).rx.receiver = .hunting
    ∧ rxWf (s 3 ackData).rx = true ∧ rxWf (s 4 ackData).rx = true ∧ (s 4 ackData).rx.buffer.length = 4
    ∧ parseFrame .ack [0#8, 5#8] = some (.ack 5#16)
    ∧ (parseFrame .hello [2#8, 0x27#8, 1#8, 2#8, 0#8, 7#8, 0#8, 1#8, 0#8, 2#8]).isSome = true
    ∧ parseFrame .record [0#8, 5#8, 1#8, 0#8, 1#8, 0#8, 0#8, 1#8, 0x0F#8, 0#8, 0#8, 0#8, 9#8]
        = some (.record 5#16 (.data .write 0#4 16384#22 [⟨15#4, 9#32⟩]))
    ∧ parseFrame .record [0#8, 5#8, 3#8, 0#8, 7#8, 1#8] = some (.record 5#16 (.beginMark 7#16 .partialScope))
    ∧ parseFrame .record [0#8, 5#8, 4#8] = some (.record 5#16 .endMark)
    ∧ parseFrame .record [0#8, 5#8, 5#8, 0#8, 7#8] = some (.record 5#16 (.handoverMark 7#16))
    ∧ [0#8, 5#8, 1#8, 0#8, 1#8, 0#8, 0#8].length = 7 ∧ (1#8).toNat = 2 * ([] : List Byte).length + 1
    ∧ rxWf (s 0 [7#8]).rx = true := by decide +kernel

/-- One data character is too few for a frame: the second clause of FrameJudgedAtEof. -/
theorem test_witness_FrameJudgedAtEof_bad (t : FrameType) :
    ∀ payload f, [7#8] = payload ++ halfBytes (crc16 (sofCode t :: payload)) → parseFrame t payload ≠ some f := by
  intro payload f h
  have := congrArg List.length h
  simp [halfBytes] at this

theorem test_witness_LinkDatapathSmallSteps :
    (let s := hearing [.record 5#16 .endMark] (active .normal [] 5#16);
      s.rx.buffer = .record 5#16 .endMark :: [] ∧ s.pair.role ≠ .standby)
    ∧ (hearing [.nak 5#16] idle).rx.buffer = .nak 5#16 :: [] ∧ idle.pair.role ≠ .active
    ∧ { idle with rx := { LinkRx.reset with receiver := .awaitingLine } }.rx.receiver = .awaitingLine
    ∧ (active .normal [] 5#16).tx.serializer ≠ .free
    ∧ { idle with tx := { LinkTx.reset with pulseTimer := some 200 } }.tx.pulseTimer = some 200
    ∧ { idle with pair := { Pairing.reset with helloTimer := some 1000 } }.pair.helloTimer = some 1000 := by decide +kernel

/-! ### Witnesses: scheduler and pairing -/

/-- A STANDBY unit with a free serializer and an acknowledgement request. -/
def asked (r : AckRequest) : State :=
  let s := freed (standby .consistent 7#16 403#16 [])
  { s with tx := { s.tx with ackRequest := r } }

theorem test_witness_SchedulerPrefers :
    (standby .consistent 7#16 0#16 []).pair.role = .standby ∧ (active .normal [] 5#16).pair.role = .active
    ∧ idle.pair.role = .none ∧ idle.pair.link = .off
    ∧ (let s := freed { idle with pair := { idle.pair with link := .down } };
      s.phase = .running ∧ s.pair.link ≠ .off ∧ s.tx.serializer = .free ∧ s.tx.helloDue = false ∧ s.pair.link ≠ .up)
    ∧ (let s := asked .ack;
      s.phase = .running ∧ s.pair.link = .up ∧ s.tx.serializer = .free ∧ s.tx.helloDue = false
        ∧ s.tx.ackRequest = .ack)
    ∧ (asked .nak).tx.ackRequest = .nak
    ∧ (let s := freed (active .normal (sents 0 7 ++ [write 7 65536 1 .pending]) 8#16);
      s.phase = .running ∧ s.pair.link = .up ∧ s.tx.serializer = .free ∧ s.tx.helloDue = false
        ∧ s.tx.ackRequest = .none ∧ offeredRecord s = some (write 7 65536 1 .pending))
    ∧ (asked .none).tx.ackRequest = .none ∧ offeredRecord (asked .none) = none
    ∧ (let s := { asked .none with tx := { (asked .none).tx with helloDue := true, pulseDue := true } };
      s.phase = .running ∧ s.pair.link ≠ .off ∧ s.tx.serializer = .free ∧ s.tx.helloDue = true)
    ∧ (let s := { asked .none with tx := { (asked .none).tx with pulseDue := true } };
      s.tx.helloDue = false ∧ s.pair.link = .up ∧ s.tx.ackRequest = .none ∧ offeredRecord s = none
        ∧ s.tx.pulseDue = true) := by decide +kernel

/-- A list of `n` SENT records and one more, on a free serializer. -/
def offering (n : Nat) (state : RecState) : State :=
  freed (active .normal (sents 0 n ++ [write n 65536 1 state]) (BitVec.ofNat 16 (n + 1)))

theorem test_witness_OldestUnsentRecordStarts :
    (let s := offering 7 .pending;
      s.phase = .running ∧ s.pair.role = .active ∧ s.pair.link = .up ∧ s.tx.serializer = .free
        ∧ s.tx.helloDue = false ∧ s.tx.ackRequest = .none ∧ s.pair.partner.role = .standby ∧ s.stream.mode = .normal
        ∧ s.list.records = sents 0 7 ++ write 7 65536 1 .pending :: [] ∧ (∀ x ∈ sents 0 7, x.state = .sent)
        ∧ (∀ x ∈ [write 7 65536 1 .pending], x.state ≠ .sent) ∧ (sents 0 7).length < s.cfg.window.toNat)
    ∧ (let s := offering 8 .pending;
      s.list.records = sents 0 8 ++ write 8 65536 1 .pending :: [] ∧ s.cfg.window.toNat ≤ (sents 0 8).length
        ∧ s.tx.pulseDue = false ∧ (∀ x ∈ sents 0 8, x.state = .sent))
    ∧ (let s := offering 0 .opened;
      s.list.records = [] ++ write 0 65536 1 .opened :: [] ∧ (write 0 65536 1 .opened).state = .opened)
    ∧ idle.pair.role ≠ .active ∧ (active .tracking [] 5#16).stream.mode = .tracking
    ∧ (standby .consistent 7#16 0#16 []).pair.partner.role ≠ .standby := by
  decide +kernel

/-- A HELLO of an ACTIVE partner. -/
def helloOf (seen streamOpen : Bool) (digest : Half) : Hello :=
  { role := .active, seen := seen, streamOpen := streamOpen, epoch := some 3#16, consistency := .inconsistent
    digest := digest, seqA := 0#16, seqB := 0#16 }

/-- The unit in a link state. -/
def linked (l : LinkState) (s : State) : State := { s with pair := { s.pair with link := l } }

theorem test_witness_HelloHandledByLinkState :
    [LinkState.off, .down, .up, .handshake, .conflict, .mismatch].all (fun l => [false, true].all fun seen =>
      let s := linked l (standby .consistent 7#16 0#16 [.hello (helloOf seen true 0#16)])
      s.rx.buffer == .hello (helloOf seen true 0#16) :: [] && s.list.records.isEmpty && s.pair.link == l
        && (helloOf seen true 0#16).seen == seen) = true := by decide +kernel

theorem test_witness_CheckedHelloJudged :
    (regionDigest table + 1#16 ≠ regionDigest idle.cfg.regions
      ∧ (linked .mismatch idle).pair.link = .mismatch ∧ (linked .handshake idle).pair.link = .handshake)
    ∧ (regionDigest table = regionDigest (active .normal [] 5#16).cfg.regions
      ∧ (active .normal [] 5#16).pair.role = .active ∧ (linked .conflict (active .closed [] 5#16)).pair.link = .conflict)
    ∧ (linked .conflict (standby .consistent 7#16 0#16 [])).pair.role ≠ .active := by
  refine ⟨⟨?_, by decide, by decide⟩, ⟨rfl, by decide, by decide⟩, by decide⟩
  show regionDigest table + 1#16 ≠ regionDigest table
  simp

/-- A unit in RESYNC with its walker in block 16, at chunk `k`, in a run state, about to enter UP at its oldest
sequence. -/
def resuming (run : RunState) (taken : Bool) (k : Nat) : State := { active .resync (sents 900 3) 903#16 with
  walker := { Walker.reset with run := run, cursor := 16, taken := taken, nextChunk := k } }

theorem test_witness_EnteringUpDecides :
    idle.pair.role ≠ .active
    ∧ (let s := active .resync (sents 900 3) 903#16;
      s.pair.role = .active ∧ s.pair.partner.role = .standby ∧ s.stream.isOpen = true ∧ s.stream.mode = .resync
        ∧ s.pair.partner.epoch = some s.stream.epoch ∧ s.pair.partner.seq = oldestSeq s.list
        ∧ (s.list.records.all fun r => isWrite r.body) = true)
    ∧ ([RunState.stopped, .running, .paused, .finished].all fun run =>
      (resuming run true 63).pair.partner.seq == 900#16 && (resuming run true 63).walker.run == run) = true
    ∧ (mirroredChunk table 16 63 = true ∧ (resuming .paused true 63).walker.nextChunk ≤ 63)
    ∧ (∀ j < 64, (resuming .paused true 64).walker.nextChunk ≤ j → mirroredChunk table 16 j = false)
    ∧ (resuming .paused false 0).walker.taken = false
    ∧ (let s := active .normal (sents 897 3) 900#16;
      s.pair.partner.epoch = some s.stream.epoch ∧ s.pair.partner.seq = s.list.nextSeq)
    ∧ (let s := active .normal (sents 901 3) 904#16;
      s.pair.role = .active ∧ s.pair.partner.role = .standby ∧ s.pair.partner.seq ≠ oldestSeq s.list
        ∧ s.pair.partner.seq ≠ s.list.nextSeq ∧ ahead s.pair.partner.seq (oldestSeq s.list) = false) := by
  decide +kernel

/-- At a resume a PAUSED walker goes on and a FINISHED one stays FINISHED (R85, R124, R132). -/
theorem test_resume_walker :
    (enterUp (resuming .paused true 5)).walker = (resuming .running true 5).walker
      ∧ (enterUp (resuming .finished false 0)).walker.run = .finished := by decide +kernel

/-- A STANDBY unit whose second word of a record waits. -/
def holdingRecord (frames : List Frame) : State :=
  let s := standby .consistent 7#16 701#16 frames
  { s with
    apply := { s.apply with
      held := some { seq := 701#16, start := 16384#22, words := [word 1, word 2], next := 1 } }
    mem := { s.mem with waiting := some (.applyWrite 16385#22 15#4 2#32) } }

theorem test_witness_StaleEpochDropped :
    let s := holdingRecord [.hello (helloOf true false 0#16)]
    s.rx.buffer = .hello (helloOf true false 0#16) :: [] ∧ s.pair.role = .standby ∧ s.apply.heldEpoch = some 7#16
      ∧ (helloOf true false 0#16).role = .active ∧ (helloOf true false 0#16).streamOpen = false
      ∧ handoverRunning s = false ∧ s.apply.handoverPending = none ∧ s.apply.held.isSome = true
      ∧ idle.pair.role ≠ .standby ∧ (helloOf true true 0#16).streamOpen = true := by decide +kernel

/-- A PULSE of a STANDBY partner. -/
def pulseOf (c : Consistency) (epoch n : Half) : Pulse :=
  { role := .standby, epoch := some epoch, consistency := c, seq := n }

theorem test_witness_PulseUpdatesTheView :
    (let s := hearing [.pulse (pulseOf .inconsistent 6#16 0#16)] (active .normal (sents 80 2) 82#16);
      s.rx.buffer = .pulse (pulseOf .inconsistent 6#16 0#16) :: [] ∧ s.pair.link = .up
        ∧ (pulseOf .inconsistent 6#16 0#16).epoch ≠ some s.stream.epoch ∧ s.pair.partner.role = .standby
        ∧ s.pair.partner.consistency ≠ .inconsistent ∧ s.pair.role = .active ∧ s.stream.mode = .normal)
    ∧ (let s := hearing [.pulse (pulseOf .consistent 7#16 82#16)] (active .normal (sents 80 2) 82#16);
      s.pair.link = .up ∧ (pulseOf .consistent 7#16 82#16).epoch = some s.stream.epoch
        ∧ (pulseOf .consistent 7#16 82#16).consistency ≠ .inconsistent)
    ∧ (linked .handshake (hearing [.pulse (pulseOf .consistent 7#16 82#16)] (active .normal [] 82#16))).pair.link
        = .handshake
    ∧ (let s := resuming .running true 5;
      s.walker.run = .running ∧ ∀ r ∈ s.list.records, isOpenSync r = false)
    ∧ (let s := { resuming .running true 5 with list := { ReplayList.reset with records := [sync 1 65536 3 .opened] } };
      s.walker.run = .running ∧ ∃ r ∈ s.list.records, isOpenSync r = true)
    ∧ idle.walker.run ≠ .running := by decide +kernel

/-! ### Witnesses: answers, leaving UP, roles -/

/-- The unit of chapter 2's windowed sending, three records SENT and one PENDING, with an answer in its buffer. -/
def window (f : Frame) : State := hearing [f] (active .normal (sents 500 3 ++ [write 503 65536 1 .pending]) 504#16)

/-- The bound of that list is 503. -/
theorem test_witness_bound (f : Frame) : isBound (window f).list 503#16 := by
  refine Or.inl ⟨sents 500 2, write 502 65536 1 .sent, [write 503 65536 1 .pending], rfl, rfl, ?_, by decide⟩
  decide +kernel

theorem test_witness_AckRemovesBehind :
    ((window (.ack 502#16)).rx.buffer = .ack 502#16 :: [] ∧ (window (.ack 502#16)).pair.role = .active
      ∧ (window (.ack 502#16)).pair.link = .up ∧ (window (.ack 502#16)).stream.mode = .normal
      ∧ oldestSeq (window (.ack 500#16)).list = 500#16
      ∧ (window (.ack 503#16)).list.records = sents 500 3 ++ [write 503 65536 1 .pending]
      ∧ (∀ r ∈ sents 500 3, ahead 503#16 r.seq = true) ∧ ahead 503#16 (write 503 65536 1 .pending).seq = false
      ∧ (∀ r ∈ sents 500 3, r.body ≠ .endMark ∧ isWrite r.body = true)
      ∧ 504#16 ≠ 500#16 ∧ ahead 500#16 504#16 = false ∧ 504#16 ≠ 503#16 ∧ ahead 503#16 504#16 = false)
    ∧ (linked .down (window (.ack 502#16))).pair.link ≠ .up
    ∧ (let s := hearing [.ack 703#16] (active .resync [rec_ 702 .endMark .sent] 703#16);
      s.rx.buffer = .ack 703#16 :: [] ∧ s.pair.role = .active ∧ s.pair.link = .up ∧ s.stream.mode = .resync
        ∧ s.list.records = [rec_ 702 .endMark .sent] ++ [] ∧ ahead 703#16 (rec_ 702 .endMark .sent).seq = true
        ∧ (rec_ 702 .endMark .sent).transmitted = true ∧ 703#16 = (rec_ 702 .endMark .sent).seq + 1#16) := by
  decide +kernel
theorem test_witness_NakReturnsSent :
    ((window (.nak 500#16)).rx.buffer = .nak 500#16 :: [] ∧ (window (.nak 500#16)).pair.role = .active
      ∧ (window (.nak 500#16)).pair.link = .up ∧ (window (.nak 500#16)).stream.mode = .normal
      ∧ ahead 500#16 (oldestSeq (window (.nak 500#16)).list) = false
      ∧ ahead (oldestSeq (window (.nak 500#16)).list) 500#16 = false ∧ ahead 503#16 500#16 = true
      ∧ ahead 500#16 (write 500 65536 1 .sent).seq = false ∧ (write 500 65536 1 .sent).transmitted = true)
    ∧ (let s := hearing [.nak 40#16] (active .normal [write 40 65536 1 .pending] 41#16);
      40#16 = oldestSeq s.list ∧ ∀ r ∈ s.list.records, r.transmitted = false)
    ∧ (ahead (oldestSeq (window (.nak 499#16)).list) 499#16 = true)
    ∧ (504#16 ≠ 503#16 ∧ ahead 503#16 504#16 = false ∧ ahead (oldestSeq (window (.nak 504#16)).list) 504#16 = false)
    ∧ (let s := hearing [.nak 703#16] (active .resync [rec_ 702 .endMark .sent, write 703 65536 1 .sent] 704#16);
      s.rx.buffer = .nak 703#16 :: [] ∧ s.pair.role = .active ∧ s.pair.link = .up ∧ s.stream.mode = .resync
        ∧ s.list.records = [rec_ 702 .endMark .sent] ++ [write 703 65536 1 .sent]
        ∧ ahead 703#16 (rec_ 702 .endMark .sent).seq = true ∧ ahead 703#16 (write 703 65536 1 .sent).seq = false
        ∧ (write 703 65536 1 .sent).transmitted = true ∧ ahead 704#16 703#16 = true) := by decide +kernel

/-- The old active of 4.9 in the committed phase, a write held under the drain. -/
def committed (f : List Frame) : State := hearing f (holding .drain
  (slot .handover .inProgress .committed (active .draining [rec_ 903 (.handoverMark 8#16) .sent] 904#16)))

/-- A HELLO of an ACTIVE partner in epoch 8, its stream open or not. -/
def newActive (streamOpen : Bool) : Hello :=
  { role := .active, seen := false, streamOpen := streamOpen, epoch := some 8#16, consistency := .inconsistent
    digest := 0#16, seqA := 904#16, seqB := 904#16 }

/-- The handover clauses of HelloHandledByLinkState: a HELLO of epoch 3 in the drain, marked and committed phases. -/
theorem test_witness_HelloHandledByLinkState_handover :
    let h := helloOf false true 0#16
    h.epoch ≠ some 8#16
    ∧ [(Detail.drain, sents 900 1), (.marked, [rec_ 903 (.handoverMark 8#16) .pending]),
        (.committed, [rec_ 903 (.handoverMark 8#16) .sent])].all (fun p =>
      let s := hearing [.hello h] (slot .handover .inProgress p.1 (active .draining p.2 904#16))
      s.rx.buffer == [.hello h] && s.pair.role == .active && s.pair.link == .up && s.stream.mode == .draining
        && handoverRunning s && standbyOnly s && s.mgmt.result.detail == p.1 && s.list.records == p.2) = true := by
  decide +kernel

theorem test_witness_HandoverConfirmed :
    let s := committed [.ack 904#16]
    let r := rec_ 903 (.handoverMark 8#16) .sent
    s.rx.buffer = .ack 904#16 :: [] ∧ s.pair.role = .active ∧ s.pair.link = .up ∧ s.stream.mode = .draining
      ∧ handoverRunning s = true ∧ s.list.records = [r] ∧ r.body = .handoverMark 8#16 ∧ r.transmitted = true
      ∧ 904#16 = r.seq + 1#16 ∧ s.host.port = .held .drain req0 cls0 true ∧ req0.kind = .write
      ∧ guardAt s.cfg.regions (4 * req0.addr.toNat) = .guarded
      ∧ (committed [.nak 904#16]).rx.buffer = .nak 904#16 :: []
      ∧ [true, false].all (fun o =>
        (committed [.hello (newActive o)]).rx.buffer == [.hello (newActive o)] && (newActive o).streamOpen == o
          && (newActive o).role == .active && (newActive o).epoch == some 8#16
          && (committed []).mgmt.result.detail == .committed) = true := by decide +kernel

/-- The HELLO of the new active in 4.9 completes the handover with CONFIRMED; with its stream not open the stale-epoch
guard drops the new epoch at once (R83, R92). -/
theorem test_handover_completed_by_hello :
    [true, false].all (fun o => leads .helloReceived (committed [.hello (newActive o)]) (fun t =>
      t.pair.role == .standby && t.pair.link == .handshake && t.mgmt.result.detail == .confirmed
        && t.mgmt.result.state == .done && t.apply.expected == 904#16 && t.stream.epoch == 8#16
        && t.apply.heldEpoch == (if o then some 8#16 else none)
        && t.apply.consistency == (if o then .consistent else .inconsistent))) = true := by decide +kernel
/-- A HELLO in the marked phase cancels the handover: the record and its number are taken back (R94). -/
theorem test_handover_cancelled_by_hello :
    leads .helloReceived (hearing [.hello (newActive true)]
      (slot .handover .inProgress .marked (active .draining [rec_ 903 (.handoverMark 8#16) .pending] 904#16))) (fun t =>
        t.pair.role == .active && t.stream.mode == .normal && t.list.records == [] && t.list.nextSeq == 903#16
          && t.mgmt.result.state == .refused && t.mgmt.result.reason == .linkLost && t.pair.link == .handshake)
      = true := by decide +kernel

/-- The unit with its retry timer running at a retry count. -/
def retrying (n : Nat) : State :=
  let s := active .normal (sents 5 2) 7#16
  { s with list := { s.list with retryTimer := some 500, retryCount := n } }

theorem test_witness_RetryAndLossTimersExpire :
    ((retrying 4).list.retryTimer = some 500 ∧ (retrying 4).pair.link = .up
      ∧ (retrying 4).list.retryCount + 1 < (retrying 4).cfg.retryLimit.toNat
      ∧ (retrying 5).cfg.retryLimit.toNat ≤ (retrying 5).list.retryCount + 1)
    ∧ ((retrying 0).pair.lossTimer = some 2000 ∧ (linked .mismatch (retrying 0)).pair.lossTimer = some 2000
      ∧ (linked .mismatch (retrying 0)).pair.link = .mismatch) := by decide +kernel
theorem test_witness_LeavingUp :
    ((retrying 0).pair.link = .up ∧ handoverRunning (retrying 0) = false ∧ (retrying 0).apply.handoverPending = none
      ∧ isWithheld (retrying 0) = false
      ∧ isWithheld { retrying 0 with host := { HostPort.reset with port := .withheld req0 } } = true)
    ∧ (let s := slot .handover .inProgress .drain (active .draining (sents 900 1) 901#16);
      s.pair.link = .up ∧ s.pair.role = .active ∧ s.stream.mode = .draining ∧ handoverRunning s = true
        ∧ standbyOnly s = true ∧ s.mgmt.result.detail = .drain ∧ ∀ r ∈ s.list.records, isWrite r.body = true)
    ∧ (let s := slot .handover .inProgress .marked (active .draining [rec_ 903 (.handoverMark 8#16) .pending] 904#16);
      handoverRunning s = true ∧ standbyOnly s = true ∧ s.mgmt.result.detail = .marked
        ∧ s.list.records = [rec_ 903 (.handoverMark 8#16) .pending])
    ∧ (standbyOnly (committed []) = true ∧ (committed []).mgmt.result.detail = .committed
      ∧ (committed []).list.records = [rec_ 903 (.handoverMark 8#16) .sent]) := by decide +kernel
theorem test_witness_PromoteAndDrainTimersExpire :
    (let s := { unitB with pair := { unitB.pair with link := .down, promoteTimer := some 20000 } };
      s.pair.promoteTimer = some 20000 ∧ s.pair.role = .standby ∧ s.apply.consistency = .consistent
        ∧ s.pair.link ≠ .up)
    ∧ (let s := { unitB with pair := { unitB.pair with promoteTimer := some 20000 } };
      s.pair.promoteTimer = some 20000 ∧ ¬(s.pair.role = .standby ∧ s.apply.consistency = .consistent
        ∧ s.pair.link ≠ .up))
    ∧ (let u := slot .handover .inProgress .drain (active .draining (sents 900 1) 901#16);
      let s := { u with pair := { u.pair with drainTimer := some 50000 } };
      s.pair.drainTimer = some 50000 ∧ handoverRunning s = true
        ∧ s.mgmt.result.detail = .drain ∧ ∀ r ∈ s.list.records, isWrite r.body = true)
    ∧ (let s := slot .handover .inProgress .drain (active .draining [] 903#16);
      handoverRunning s = true ∧ s.mgmt.result.detail = .drain ∧ s.stream.mode = .draining ∧ s.list.records = []
        ∧ s.list.reserved = false) := by decide +kernel
theorem test_witness_RoleChange :
    beforeWarm.mem.bus = some (.internal (.walkerRead 7#22) false)
    ∧ (active .normal [] 5#16).pair.link = .up ∧ (active .resync [] 5#16).stream.mode = .resync
    ∧ (beforeWarm.pair.role = .active ∧ beforeWarm.list.reserved = true
      ∧ beforeWarm.host.port = .forwarded { kind := .write, addr := 32768#22, lanes := 15#4, data := 5#32 }
          { role := .active, region := some 3#4, policy := .confirm } false)
    ∧ withholding.host.port = .withheld req0
    ∧ withholding.pair.role = .active
    ∧ (standby .consistent 7#16 0#16 []).pair.role = .standby := by decide +kernel

/-- The STANDBY unit of 4.9 that has applied HANDOVER 903. -/
def pendingB : State :=
  let s := standby .consistent 7#16 904#16 []
  { s with apply := { s.apply with handoverPending := some (8#16, 903#16) }, tx := { s.tx with ackRequest := .ack } }

theorem test_witness_HandoverRoleTaken :
    pendingB.pair.role = .standby ∧ pendingB.apply.handoverPending = some (8#16, 903#16)
      ∧ inactiveEmpty pendingB = true ∧ pendingB.pair.link = .up ∧ handoverRunning pendingB = false := by
  decide +kernel

/-! ### Witnesses: apply engine and resync -/

theorem test_witness_RecordJudged :
    (let s := holdingRecord [.record 702#16 .endMark];
      s.rx.buffer = .record 702#16 .endMark :: [] ∧ s.pair.role = .standby ∧ s.apply.held.isSome = true)
    ∧ (let s := unitR 701#16 false [.record 5#16 (.beginMark 13#16 .full)];
      s.rx.buffer = .record 5#16 (.beginMark 13#16 .full) :: [] ∧ s.apply.held = none
        ∧ s.apply.handoverPending = none ∧ s.apply.heldEpoch ≠ some 13#16)
    ∧ (let s := { unitR 701#16 false [.record 701#16 .endMark] with apply := ApplyEngine.reset };
      s.rx.buffer = .record 701#16 .endMark :: [] ∧ s.pair.role = .standby ∧ s.apply.held = none
        ∧ s.apply.handoverPending = none ∧ s.apply.heldEpoch = none)
    ∧ (let s := unitR 701#16 false [.record 700#16 .endMark];
      s.apply.heldEpoch = some 12#16 ∧ 700#16 ≠ s.apply.expected ∧ ahead s.apply.expected 700#16 = true)
    ∧ (ahead 701#16 702#16 = false ∧ (unitR 701#16 true []).apply.gap = true
      ∧ (unitR 701#16 false []).apply.gap = false) := by decide +kernel

/-- A WRITE record 701 of two words at a word address. -/
def record701 (start : Nat) : Frame :=
  .record 701#16 (.data .write 0#4 (BitVec.ofNat 22 start) (word 1 :: [word 2]))

theorem test_witness_RecordAppliedInTurn :
    (let s := unitR 701#16 true [record701 18430];
      s.rx.buffer = record701 18430 :: [] ∧ s.pair.role = .standby ∧ s.apply.held = none
        ∧ s.apply.handoverPending = none ∧ s.apply.heldEpoch = some 12#16 ∧ 701#16 = s.apply.expected
        ∧ (regionAt s.cfg.regions 0#4).enabled = true
        ∧ 256 * (regionAt s.cfg.regions 0#4).base.toNat ≤ 4 * (18430#22).toNat
        ∧ 4 * (18430#22).toNat + 4 * ([word 2].length + 1) ≤ 256 * (regionAt s.cfg.regions 0#4).base.toNat
            + 256 * ((regionAt s.cfg.regions 0#4).countLess1.toNat + 1)
        ∧ ¬(4 * (18431#22).toNat + 4 * ([word 2].length + 1) ≤ 256 * (regionAt s.cfg.regions 0#4).base.toNat
            + 256 * ((regionAt s.cfg.regions 0#4).countLess1.toNat + 1)))
    ∧ (unitR 701#16 false [.record 701#16 (.beginMark 12#16 .partialScope)]).apply.heldEpoch = some 12#16
    ∧ (unitR 701#16 false [.record 701#16 .endMark]).apply.expected = 701#16
    ∧ (unitR 701#16 false [.record 701#16 (.handoverMark 13#16)]).pair.link = .up
    ∧ (linked .down (unitR 701#16 false [.record 701#16 (.handoverMark 13#16)])).pair.link ≠ .up := by decide +kernel

/-- A write that the stale-epoch guard or a change of role has disowned is still in progress: the record taken now is
held, and its first word is asked for only at that answer (R105, R151, R153; log 36). -/
theorem test_apply_asks_after_disowned_answer :
    let s := unitR 701#16 false [record701 16384]
    leads .recordTaken { s with mem := { s.mem with bus := some (.internal (.applyWrite 5#22 15#4 1#32) true) } } (fun t =>
      t.apply.held.isSome && t.mem.waiting == none
        && leads (.applyWriteAnswer .fault) t (fun u => u.apply == t.apply && u.mem.bus == none
          && u.mem.waiting == some (.applyWrite 16384#22 15#4 1#32))) = true := by decide +kernel

/-- A STANDBY unit whose write of word `next` of a two-word record is in progress. -/
def applying (next : Nat) (disowned : Bool) : State :=
  let s := standby .consistent 7#16 701#16 []
  { s with
    apply := { s.apply with held := some { seq := 701#16, start := 16384#22, words := [word 1, word 2], next := next } }
    mem := { s.mem with bus := some (.internal (.applyWrite 16384#22 15#4 1#32) disowned) } }

theorem test_witness_ApplyWriteAnswered :
    (applying 0 true).mem.bus = some (.internal (.applyWrite 16384#22 15#4 1#32) true)
    ∧ (applying 0 false).mem.bus = some (.internal (.applyWrite 16384#22 15#4 1#32) false)
    ∧ (applying 0 false).apply.held
        = some { seq := 701#16, start := 16384#22, words := [word 1, word 2], next := 0 }
    ∧ [word 1, word 2][0 + 1]? = some (word 2) ∧ [word 1, word 2].length ≤ 1 + 1
    ∧ (applying 1 true).pair.role = .standby ∧ [word 1, word 2][1]? = some (word 2) ∧ (asked .ack).apply.held = none := by
  decide +kernel
theorem test_witness_ResyncStart :
    (let s := fullList 64;
      let p := { s with stream := { s.stream with basisEpoch := 7#16, basisValid := true } };
      p.stream.basisValid = true ∧ p.pair.partner.epoch = some p.stream.basisEpoch
        ∧ 64 ≤ occupancy p.list + (hostWaits p).toNat)
    ∧ (occupancy (fullList 63).list + (hostWaits (fullList 63)).toNat < 64
      ∧ (fullList 63).stream.basisValid ≠ true ∧ (fullList 63).list.records ≠ []
      ∧ isWithheld (fullList 63) = false)
    ∧ (withholding.host.port = .withheld req0 ∧ withholding.list.records ≠ []
      ∧ withholding.stream.basisValid = false)
    ∧ (contended 3).mem.bus = none ∧ ∀ op b, (contended 3).mem.bus ≠ some (.internal op b) := by
  refine ⟨by decide +kernel, by decide +kernel, by decide +kernel, by decide +kernel, ?_⟩
  intro op b h
  exact absurd h (by simp [show (contended 3).mem.bus = none by decide +kernel])
/-- A walker read in progress at a resync start is disowned, a host transaction stays (R130, R153). -/
theorem test_resync_start_disowns :
    let s := active .resync [] 10#16
    let bus (b : BusTxn) : Option BusTxn := (resyncStart { s with mem := { s.mem with bus := some b } }).mem.bus
    bus (.internal (.walkerRead 5#22) false) = some (.internal (.walkerRead 5#22) true)
      ∧ bus (.host req0) = some (.host req0) := by decide +kernel
/-- An END that still waits is withdrawn by the next resync start, and the BEGIN stands alone (R28, R134; log 31). -/
theorem test_resync_start_withdraws_end :
    let s := active .resync [] 10#16
    let t := resyncStart { s with list := { s.list with waitingMarker := some .endMark } }
    t.list.waitingMarker = none ∧ t.list.records = [rec_ 10 (.beginMark 8#16 .full) .pending] := by decide +kernel
theorem test_witness_Spill :
    beforeWarm.list.reserved = true
    ∧ beforeWarm.host.port = .forwarded { kind := .write, addr := 32768#22, lanes := 15#4, data := 5#32 }
        { role := .active, region := some 3#4, policy := .confirm } false
    ∧ (holding .list (fullList 64)).host.port = .held .list req0 cls0 true
    ∧ withholding.host.port = .withheld req0 := by decide +kernel

/-- The chunks of block 16 are all mirrored, those of block 0 are none. -/
theorem test_witness_chunks :
    (∀ k : Fin 64, mirroredChunk table 16 k = true) ∧ ∀ k : Fin 64, mirroredChunk table 0 k = false := by
  decide +kernel

/-- An ACTIVE unit in RESYNC with `n` list entries taken and a walker. -/
def walking (n : Nat) (dirty : List Nat) (taken : Bool) (cursor k : Nat) : State :=
  let s := active .resync (sents 0 n) (BitVec.ofNat 16 n)
  { s with
    dirty := dirty
    walker := { Walker.reset with run := .running, cursor := cursor, taken := taken, nextChunk := k } }

theorem test_witness_WalkerTakesAndOpens :
    (let s := { walking 63 [] false 0 0 with list := { (walking 63 [] false 0 0).list with waitingMarker := some .endMark } };
      s.list.waitingMarker = some .endMark ∧ occupancy s.list + (hostWaits s).toNat < 64)
    ∧ 64 ≤ occupancy (walking 64 [] false 0 0).list + (hostWaits (walking 64 [] false 0 0)).toNat
    ∧ (let s := walking 0 [0, 16] false 0 0;
      s.walker.run = .running ∧ s.walker.taken = false ∧ 0 ∈ s.dirty ∧ rising s.dirty = true ∧ s.walker.cursor ≤ 0
        ∧ ∀ x ∈ s.dirty, s.walker.cursor ≤ x → 0 ≤ x)
    ∧ (let s := walking 0 [3, 16] false 16 0;
      16 ∈ s.dirty ∧ rising s.dirty = true ∧ s.walker.cursor ≤ 16 ∧ ∀ x ∈ s.dirty, s.walker.cursor ≤ x → 16 ≤ x)
    ∧ (∀ x ∈ (walking 63 [3] false 4096 0).dirty, x < (walking 63 [3] false 4096 0).walker.cursor)
    ∧ (let s := walking 63 [] true 16 63;
      s.walker.run = .running ∧ s.walker.taken = true ∧ s.walker.pauseDue = false ∧ fillsSync s.list = false
        ∧ s.walker.cursor < 4096 ∧ s.walker.nextChunk < 64
        ∧ regionIndexAt s.cfg.regions (4096 * s.walker.cursor + 64 * s.walker.nextChunk) = some 0#4
        ∧ occupancy s.list + (hostWaits s).toNat + s.list.waitingMarker.isSome.toNat < 64) := by decide +kernel

/-- A walker with `n` words read into its open SYNC record. -/
def readingSync (n k : Nat) (pauseDue disowned : Bool) : State :=
  let s := active .resync (sents 0 1 ++ [sync 1 65536 n .opened, write 2 65536 1 .opened]) 3#16
  { s with
    mem := { s.mem with bus := some (.internal (.walkerRead 16384#22) disowned) }
    walker := { Walker.reset with run := .running, pauseDue := pauseDue, cursor := 16, taken := true, nextChunk := k } }

theorem test_witness_WalkerReadAnswered :
    ((readingSync 3 0 false true).mem.bus = some (.internal (.walkerRead 16384#22) true)
      ∧ (readingSync 3 0 false true).list.records
          = sents 0 1 ++ sync 1 65536 3 .opened :: [write 2 65536 1 .opened]
      ∧ (∀ x ∈ sents 0 1, isOpenSync x = false) ∧ (readingSync 3 0 false true).pair.role = .active
      ∧ ∀ r ∈ (fullList 1).list.records, isOpenSync r = false)
    ∧ [14, 15].all (fun n =>
      let s := readingSync n 63 true false
      s.mem.bus == some (.internal (.walkerRead 16384#22) false) && s.walker.run == .running && s.walker.taken
        && s.list.records == sents 0 1 ++ sync 1 65536 n .opened :: [write 2 65536 1 .opened]
        && (sync 1 65536 n .opened).state == .opened
        && (sync 1 65536 n .opened).body == .data .sync 0#4 16384#22 (List.replicate n (word 1))
        && (sents 0 1 ++ [write 2 65536 1 .opened]).all (fun r => !isOpenSync r)
        && decide ((List.replicate n (word 1)).length + 1 < 16) == (n == 14)) = true
    ∧ (readingSync 15 62 true false).walker.nextChunk + 1 < 64 ∧ 64 ≤ (readingSync 15 63 true false).walker.nextChunk + 1
    ∧ (readingSync 15 62 false false).walker.pauseDue = false := by decide +kernel
theorem test_witness_AutoResyncTaken :
    [StreamMode.normal, .resync, .closed, .tracking].all (fun m =>
      let s := { active m [] 5#16 with walker := { Walker.reset with autoRequest := true } }
      s.walker.autoRequest && s.stream.mode == m) = true
    ∧ (committed []).mgmt.result.detail = .committed ∧ (committed []).stream.mode = .draining
    ∧ (let s := slot .handover .inProgress .drain (active .draining (sents 900 1) 901#16);
      s.stream.mode = .draining ∧ s.mgmt.result.detail ≠ .committed ∧ ∀ r ∈ s.list.records, isWrite r.body = true)
    ∧ (let s := slot .handover .inProgress .marked (active .draining [rec_ 903 (.handoverMark 8#16) .pending] 904#16);
      s.mgmt.result.detail ≠ .committed ∧ s.list.records = [rec_ 903 (.handoverMark 8#16) .pending])
    ∧ routeCode (0x00080008#30) .linkLost = 2 ∧ routeCode (0x00080008#30) .partnerInconsistent = 2
    ∧ routeCode (0x00080008#30) .linkUp ≠ 2 := by
  decide +kernel
/-- The reflexes of LINK_LOST on a STANDBY and of PARTNER_INCONSISTENT, and a LINK_LOST without one (R163, R164). -/
theorem test_raise_reflexes :
    let routed (s : State) : State := { s with cfg := { s.cfg with routes := 0x00080008#30, promoteDelay := 3#8 } }
    let b := raise .linkLost (routed (standby .consistent 7#16 0#16 []))
    let a := raise .linkLost (routed (active .normal [] 5#16))
    let p := raise .partnerInconsistent (routed (active .normal [] 5#16))
    b.pair.promoteTimer = some 3000 ∧ b.events.autoPromote = .waiting ∧ b.events.flags = 2#15
      ∧ a.pair.promoteTimer = none ∧ a.events.flags = 2#15
      ∧ p.walker.autoRequest = true ∧ p.events.autoResync = .pending ∧ p.events.flags = 0x200#15 := by decide +kernel

/-! ### Witnesses: management port and invariants -/

theorem test_witness_TransactionsAddressSelectAndRead :
    State.reset.phase ≠ .running ∧ { idle with wrst := true }.wrst = true
    ∧ (93#7).toNat ≠ 92 + idle.mgmt.strapAddr.toNat ∧ acknowledges 92#7 idle = true
    ∧ (let s := next (.coldResetEnd 3#2 false) State.reset; acknowledges 95#7 s = true)
    ∧ [0#8, 0#8, 0#8].length ≠ 0 ∧ [0#8, 0#8, 0#8].length ≠ 4 ∧ 1 ≤ 1 ∧ itemKind 0x4D#8 = none
    ∧ listWf (fullList 64).list = true ∧ (fullList 64).dirty.length ≤ 4096
    ∧ (walking 63 [3] false 4096 0).walker.cursor ≤ 4096 ∧ listWf (walking 63 [3] false 4096 0).list = true
    ∧ [Role.none, .active, .standby][1]? = some (fullList 64).pair.role
    ∧ [LinkState.off, .down, .handshake, .up, .conflict, .mismatch][3]? = some (fullList 64).pair.link
    ∧ [StreamMode.closed, .normal, .resync, .tracking, .draining][1]? = some (fullList 64).stream.mode
    ∧ [LinkRate.r12, .r25, .r50][1]? = some idle.cfg.linkRate
    ∧ [Role.none, .active, .standby][0]? = some idle.cfg.startRole
    ∧ [Policy.pass, .stream, .confirm][2]? = some (regionAt (fullList 64).cfg.regions 3#4).policy := by decide +kernel
/-- The reset values that 11.4 gives to routes, settings and commands: 0x32, 0x40 to 0x4C, 0x50; and 0x38 by its reset
value 0x10. -/
theorem test_item_reset_values :
    [0x31, 0x32, 0x38, 0x40, 0x41, 0x42, 0x43, 0x44, 0x45, 0x46, 0x47, 0x48, 0x49, 0x4A, 0x4B, 0x4C, 0x50].map
        (fun n => (itemValue (BitVec.ofNat 8 n) State.reset).map BitVec.toNat) =
      [0, 0, 0x10, 16, 4, 8, 500, 6, 10000, 1000, 2000, 50, 20, 0, 200, 5000, 0].map some := by decide +kernel
/-- LIST_STATE, STREAM_STATE and COMMAND_RESULT of an ACTIVE unit, by the layouts of 11.4 and 11.5. -/
theorem test_item_layouts :
    (itemValue 0x16#8 (fullList 64)).map BitVec.toNat = some (64 + 256 * 64)
      ∧ itemValue 0x12#8 (active .draining [] 5#16) = some 0x00070014#32
      ∧ itemValue 0x51#8 (slot .handover .refused .marked (active .normal [] 5#16)) = some 0x00002034#32 := by
  decide +kernel
theorem test_witness_WriteChecksInOrder :
    acknowledges 92#7 loading = true ∧ loading.loader.state = .loading ∧ acknowledges 92#7 unit97 = true
    ∧ unit97.loader.state ≠ .loading ∧ itemKind 0x02#8 = none ∧ itemKind 0x42#8 ≠ none
    ∧ itemKind 0x23#8 = some .readOnly ∧ 8 < (valueOf (low 9#8)).toNat ∧ valueOf (low 0#8) = 0#32
    ∧ (slot .handover .inProgress .drain unit97).mgmt.result.state = .inProgress := by decide +kernel
theorem test_witness_EventsClearedTogether :
    acknowledges 92#7 loading = true ∧ loading.loader.state = .loading
    ∧ acknowledges 92#7 unit97 = true ∧ unit97.loader.state ≠ .loading ∧ (0x7FFF#32).toNat < 2 ^ 15
    ∧ 2 ^ 15 ≤ (0x8000#32).toNat
    ∧ ∀ i < 15, (0#15).getLsbD i = (unit97.events.flags.getLsbD i && !(0x7FFF#32).getLsbD i) := by decide +kernel
theorem test_witness_RoutesAndLinkControlWritten :
    (acknowledges 92#7 idle = true ∧ idle.loader.state ≠ .loading ∧ (0x00080008#32).toNat < 2 ^ 30
      ∧ (allEvents.all fun e => routeCode (0x00080008#30) e ≤ 1
        || routeCode (0x00080008#30) e == 2 && (e == .linkLost || e == .partnerInconsistent)) = true
      ∧ ¬(0x40000000#32).toNat < 2 ^ 30 ∧ alertExact idle = true)
    ∧ (0x30#32 &&& 0x30#32 = 0x30#32)
    ∧ (0x21#32 &&& 0xFFFFFFCE#32 = 0#32 ∧ 0x21#32 &&& 0x30#32 ≠ 0x30#32
      ∧ 0x21#32 &&& 0x30#32 = BitVec.ofNat 32 (16 * rateCode .r50) ∧ idle.cfg.linkEnable = true
      ∧ LinkRate.r50 ≠ idle.cfg.linkRate)
    ∧ (let s := { idle with cfg := { idle.cfg with linkEnable := false } };
      s.cfg.linkEnable = false ∧ (0x21#32).getLsbD 0 = true ∧ s.pair.link = .off)
    ∧ (idle.cfg.linkEnable = true ∧ (0x10#32).getLsbD 0 = false
      ∧ 0x10#32 &&& 0x30#32 = BitVec.ofNat 32 (16 * rateCode idle.cfg.linkRate))
    ∧ [Event.linkUp, .linkLost, .roleConflict, .digestMismatch, .linkError, .confirmFail, .holdTimeout, .spilled,
      .resyncEnd, .partnerInconsistent, .guardHit, .applyFault, .roleChanged, .loadEnd, .commandEnd][14]?
        = some .commandEnd := by decide +kernel
theorem test_witness_SettingsWritten :
    (acknowledges 92#7 unit97 = true ∧ unit97.loader.state ≠ .loading ∧ unit97.pair.role ≠ .none)
    ∧ (acknowledges 92#7 idle = true ∧ idle.loader.state ≠ .loading ∧ idle.pair.role = .none)
    ∧ ((65535#16).toNat + ((0#16).toNat + 1) ≤ 65536 ∧ 65536 < (65535#16).toNat + ((1#16).toNat + 1)
      ∧ 0xFFFF0000#32 = 65535#16 ++ 0#16)
    ∧ (0x2#32 &&& 0xFFFFFECE#32 ≠ 0#32 ∧ 0x121#32 &&& 0xFFFFFECE#32 = 0#32
      ∧ 0x121#32 &&& 0x30#32 = BitVec.ofNat 32 (16 * policyCode .confirm))
    ∧ (17#32).toNat > 16 ∧ 1 ≤ (16#32).toNat ∧ (16#32).toNat ≤ 16 := by decide +kernel
theorem test_witness_RoleCommands :
    [idle, active .normal [] 5#16, standby .consistent 7#16 0#16 []].all (fun s =>
      acknowledges 92#7 s && s.loader.state != .loading && s.mgmt.result.state != .inProgress) = true
    ∧ (let s := standby .consistent 7#16 0#16 [];
      s.pair.role = .standby ∧ s.pair.link = .up ∧ s.pair.partner.role = .active)
    ∧ (linked .down (standby .consistent 7#16 0#16 [])).pair.link ≠ .up ∧ idle.pair.role = .none
    ∧ (active .normal [] 5#16).pair.role = .active := by decide +kernel
theorem test_witness_HandoverResyncReloadJudged :
    (let s := active .normal (sents 900 1) 901#16;
      acknowledges 92#7 s = true ∧ s.loader.state ≠ .loading ∧ s.mgmt.result.state ≠ .inProgress
        ∧ s.pair.role = .active ∧ s.pair.link = .up ∧ s.pair.partner.role = .standby
        ∧ s.pair.partner.consistency = .consistent ∧ s.stream.mode = .normal ∧ s.host.port = .idle)
    ∧ (active .resync [] 5#16).stream.mode ≠ .normal ∧ (linked .down (active .normal [] 5#16)).pair.link ≠ .up
    ∧ (let s := active .normal [] 5#16;
      { s with pair := { s.pair with partner := PartnerView.cleared } }.pair.partner.role ≠ .standby)
    ∧ idle.pair.role = .none
    ∧ (let s := writing 65536 0#4 .stream false (active .normal [] 5#16);
      s.host.port = .forwarded { kind := .write, addr := 16384#22, lanes := 15#4, data := 5#32 }
        { role := .active, region := some 0#4, policy := .stream } false ∧ s.list.reserved = false)
    ∧ (let s := writingAs .standby .stream (active .normal [] 5#16);
      s.host.port = .forwarded { kind := .write, addr := 16384#22, lanes := 15#4, data := 5#32 }
        { role := .standby, region := some 0#4, policy := .stream } false ∧ s.list.reserved = false) := by
  decide +kernel
theorem test_witness_CountersClearedTogether :
    acknowledges 92#7 unit97 = true ∧ unit97.loader.state ≠ .loading ∧ unit97.mgmt.result.state ≠ .inProgress
    ∧ (slot .handover .inProgress .drain unit97).mgmt.result.state = .inProgress ∧ 65534#16 ≠ 65535#16 := by
  decide +kernel
theorem test_witness_AlertExactKept :
    alertExact unitB = true ∧ completes .lossTimerExpiry unitB = true ∧ alertExact loading = true := by decide +kernel
theorem test_witness_SoundKept :
    sound (retrying 5) = true ∧ completes .retryTimerExpiry (retrying 5) = true ∧ sound (holdingRecord []) = true
      ∧ sound (readingSync 15 62 false false) = true ∧ sound loading = true ∧ sound (committed []) = true := by
  decide +kernel
theorem test_witness_SettledKept :
    settled (retrying 0) = true ∧ completes .frameEnd (retrying 0) = true ∧ settled (offering 8 .pending) = true := by
  decide +kernel

end Sys2Proof.Tests
end

section
/-! PROOFS. The apply engine judges a RECORD (R99 to R103). -/

namespace Sys2Proof.Machine

variable {s : State} {seq : Half} {body : RecordBody} {rest : List Frame}

/-! ### Taking the oldest frame (R99) -/

/-- The engine is free on a STANDBY that holds no record and has no handover pending (R97, R99). -/
theorem engineFree_iff : engineFree s = true ↔
    s.pair.role = .standby ∧ s.apply.held = none ∧ s.apply.handoverPending = none := by
  simp [engineFree, and_assoc]

/-- The oldest frame's slot becomes free, and the frames behind it move up (R63). -/
theorem dropOldest_of_buffer {f : Frame} (hb : s.rx.buffer = f :: rest) :
    dropOldest s = { s with rx := { s.rx with buffer := rest } } := by
  simp [dropOldest, hb]

/-- A busy engine leaves the frame where it is (R99). -/
theorem exec_recordTaken_of_busy (hb : s.rx.buffer = .record seq body :: rest) (h : engineFree s = false) :
    exec .recordTaken s = .next s := by
  simp [exec, execRecordTaken, hb, h]

/-- A free engine takes the frame out of the buffer and judges its record at once (R99). -/
theorem exec_recordTaken_of_free (hb : s.rx.buffer = .record seq body :: rest) (h : engineFree s = true) :
    exec .recordTaken s =
      .next (finish (judgeRecord seq body { s with rx := { s.rx with buffer := rest } })) := by
  simp [exec, execRecordTaken, hb, h, dropOldest_of_buffer hb]

/-! ### The first case that fits (R100) -/

/-- A BEGIN of an epoch that is not held is accepted whatever its sequence (R100 case 2). -/
theorem judgeRecord_of_newEpoch {epoch : Half} (scope : Scope) (h : s.apply.heldEpoch ≠ some epoch) :
    judgeRecord seq (.beginMark epoch scope) s = acceptBegin seq epoch scope s := by
  unfold judgeRecord
  cases hh : s.apply.heldEpoch with
  | none => rfl
  | some held =>
    have differs : epoch ≠ held := fun e => h (by rw [hh, e])
    exact if_neg differs

/-- With no epoch held a record that is no BEGIN is discarded unanswered (R100 case 1). -/
theorem judgeRecord_of_noEpoch (h : s.apply.heldEpoch = none)
    (notBegin : ∀ epoch scope, body ≠ .beginMark epoch scope) : judgeRecord seq body s = s := by
  unfold judgeRecord
  cases body with
  | beginMark epoch scope => exact absurd rfl (notBegin epoch scope)
  | data | endMark | handoverMark => simp only [h]

/-- Any record of the stream that the engine follows is judged by its sequence (R100 cases 3 to 5). -/
theorem judgeRecord_of_heldEpoch {held : Half} (h : s.apply.heldEpoch = some held)
    (ofHeld : ∀ epoch scope, body = .beginMark epoch scope → epoch = held) :
    judgeRecord seq body s = judgeSequence seq body s := by
  unfold judgeRecord
  cases body with
  | beginMark epoch scope => simp only [h, ofHeld epoch scope rfl, if_true]
  | data | endMark | handoverMark => simp only [h]

/-- A record behind the expected sequence is a duplicate: an ACK is asked for (R102). -/
theorem judgeSequence_of_behind (hne : seq ≠ s.apply.expected) (h : behind seq s.apply.expected = true) :
    judgeSequence seq body s = askAck s := by
  simp [judgeSequence, hne, h]

/-- A record neither at nor behind the expected sequence is out of turn (R100, R103; log 7). -/
theorem judgeSequence_of_not_behind (hne : seq ≠ s.apply.expected) (h : behind seq s.apply.expected = false) :
    judgeSequence seq body s = outOfTurn s := by
  simp [judgeSequence, hne, h]

/-! ### What each case leaves (R101, R103) -/

/-- The table of R101: only an INCONSISTENT copy under a PARTIAL scope is not repaired by the resync. -/
theorem afterBegin_eq (scope : Scope) (before : Consistency) : afterBegin scope before =
    if scope = .full then .resyncing else if before = .inconsistent then .inconsistent else .resyncing := by
  cases scope with
  | full => rfl
  | partialScope => cases before <;> rfl

/-- An accepted BEGIN opens its stream with the next sequence expected and asks for an ACK (R101). -/
theorem acceptBegin_eq (epoch : Half) (scope : Scope) : acceptBegin seq epoch scope s = { s with
    apply := { s.apply with
      heldEpoch := some epoch
      expected := seq + 1#16
      gap := false
      consistency := if scope = .full then .resyncing
        else if s.apply.consistency = .inconsistent then .inconsistent else .resyncing }
    tx := { s.tx with ackRequest := if s.tx.ackRequest = .none then .ack else s.tx.ackRequest } } := by
  rw [acceptBegin, askAck_eq, afterBegin_eq]

/-- A gap already reported is not reported again (R103). -/
theorem outOfTurn_of_gap (h : s.apply.gap = true) : outOfTurn s = s :=
  if_pos h

/-- The first record after a gap reports it with a NAK (R103). -/
theorem outOfTurn_of_no_gap (h : s.apply.gap = false) : outOfTurn s = { s with
    apply := { s.apply with gap := true }
    tx := { s.tx with ackRequest := .nak } } := by
  simp [outOfTurn, askNak, h]

/-! ### The obligation -/

/-- Settles O41: a busy engine takes nothing, and a free one judges the record by the first case of R100 that fits. -/
theorem recordJudged : Obligations.RecordJudged := by
  intro seq body rest s hb hrole u asked
  refine ⟨fun busy => ?_, fun hheld hpend => ?_⟩
  · refine exec_recordTaken_of_busy hb (eq_false_of_ne_true fun free => ?_)
    obtain ⟨-, hheld, hpend⟩ := engineFree_iff.mp free
    simp [hheld, hpend] at busy
  · have taken : exec .recordTaken s = .next (finish (judgeRecord seq body u)) :=
      exec_recordTaken_of_free hb (engineFree_iff.mpr ⟨hrole, hheld, hpend⟩)
    rw [taken]
    refine ⟨?newEpoch, ?noEpoch, ?heldEpoch⟩
    case newEpoch =>
      rintro epoch scope rfl hnew
      rw [judgeRecord_of_newEpoch (s := u) scope hnew, acceptBegin_eq]
    case noEpoch =>
      intro hnone notBegin
      rw [judgeRecord_of_noEpoch (s := u) hnone notBegin]
    case heldEpoch =>
      intro held hsome ofHeld hne
      rw [judgeRecord_of_heldEpoch (s := u) hsome ofHeld]
      refine ⟨fun duplicate => ?_, fun later => ?_⟩
      · rw [judgeSequence_of_behind (s := u) hne duplicate, askAck_eq]
      · rw [judgeSequence_of_not_behind (s := u) hne later]
        refine ⟨fun gap => ?_, fun noGap => ?_⟩
        · rw [outOfTurn_of_gap (s := u) gap]
        · rw [outOfTurn_of_no_gap (s := u) noGap]

end Sys2Proof.Machine
end

section
/-! PROOFS. The memory port's own moves, and the frame of every shared operation that leaves the port alone. -/

namespace Sys2Proof.Machine

variable (s : State)

/-! ### Withdrawal (R153) -/

/-- The port after a withdrawal: what `withdrawInternal` makes of the port alone (R153). -/
def withdrawn (m : MemPort) : MemPort where
  bus := match m.bus with
    | some (.internal op _) => some (.internal op true)
    | other => other
  waiting := none
  fairness := 0

@[simp] theorem withdrawInternal_mem : (withdrawInternal s).mem = withdrawn s.mem := rfl
@[simp] theorem withdrawn_waiting (m : MemPort) : (withdrawn m).waiting = none := rfl
@[simp] theorem withdrawn_fairness (m : MemPort) : (withdrawn m).fairness = 0 := rfl

/-! ### Operations of the host port, the list and the walker -/

@[simp] theorem failConfirmWait_mem : (failConfirmWait s).mem = s.mem := by
  rcases failConfirmWait_cases s with ⟨_, e⟩ | ⟨_, e⟩ <;> simp [e]

@[simp] theorem cancelReservation_mem : (cancelReservation s).mem = s.mem := by
  rcases cancelReservation_cases s with ⟨_, e⟩ | ⟨_, _, _, _, _, _, e⟩ | ⟨_, e⟩ <;> simp [e]

@[simp] theorem pauseWalker_mem : (pauseWalker s).mem = s.mem := by
  rcases pauseWalker_cases s with ⟨_, e⟩ | ⟨_, _, e⟩ | ⟨_, _, e⟩ <;> simp [e]

@[simp] theorem askMarker_mem (body : RecordBody) : (askMarker body s).mem = s.mem := by
  rcases askMarker_cases s body with ⟨_, e⟩ | ⟨_, e⟩ <;> simp [e]

@[simp] theorem walkerGoOn_mem : (walkerGoOn s).mem = s.mem := by
  simp only [walkerGoOn, apply_ite State.mem, ite_self]

@[simp] theorem resumeWalker_mem : (resumeWalker s).mem = s.mem := by
  unfold resumeWalker
  split <;> simp

@[simp] theorem discard_mem (keep : Bool) : (discard keep s).mem = s.mem := by
  cases keep <;> simp [discard]

@[simp] theorem beginFull_mem : (beginFull s).mem = s.mem := by
  unfold beginFull
  split <;> simp

@[simp] theorem askAck_mem : (askAck s).mem = s.mem := by simp [askAck_eq]

@[simp] theorem finishWalk_mem : (finishWalk s).mem = s.mem := by simp [finishWalk]

@[simp] theorem takeBlock_mem (b : Nat) : (takeBlock b s).mem = s.mem := by simp [takeBlock]

@[simp] theorem chunkClosed_mem : (chunkClosed s).mem = s.mem := by
  simp only [chunkClosed, apply_ite State.mem, walkerGoOn_mem, ite_self]

/-! ### Capture (R15 to R21) -/

@[simp] theorem answerUnconfirmed_mem (cls : HostClass) (condemned : Bool) :
    (answerUnconfirmed cls condemned s).mem = s.mem := by
  unfold answerUnconfirmed
  split_ifs <;> simp

@[simp] theorem openOrClose_mem (closes : Bool) : (openOrClose closes s).mem = s.mem := by
  cases closes <;> rfl

@[simp] theorem joinWrite_mem (req : HostReq) (region : BitVec 4) : (joinWrite req region s).mem = s.mem := by
  simp [joinWrite]

@[simp] theorem openWrite_mem (req : HostReq) (region : BitVec 4) : (openWrite req region s).mem = s.mem := by
  simp [openWrite]

@[simp] theorem captureConfirm_mem (req : HostReq) (cls : HostClass) (region : BitVec 4) (condemned : Bool) :
    (captureConfirm req cls region condemned s).mem = s.mem := by
  simp only [captureConfirm, apply_ite State.mem, beginConfirmWait_mem, answerUnconfirmed_mem,
    dropReservation_mem, ite_self]

/-! ### Events, command slot and settings -/

@[simp] theorem endCommand_mem (state : CmdState) (reason : Reason) (detail : Detail) :
    (endCommand state reason detail s).mem = s.mem := by simp [endCommand]

@[simp] theorem doneAtOnce_mem (c : Command) : (doneAtOnce c s).mem = s.mem := by simp [doneAtOnce]

@[simp] theorem refusedAtOnce_mem (c : Command) (reason : Reason) : (refusedAtOnce c reason s).mem = s.mem := by
  simp [refusedAtOnce]

@[simp] theorem refusedBusy_mem (c : Command) : (refusedBusy c s).mem = s.mem := by simp [refusedBusy]

@[simp] theorem acceptHandover_mem : (acceptHandover s).mem = s.mem := rfl

@[simp] theorem reloadEffect_mem : (reloadEffect s).mem = s.mem := by
  unfold reloadEffect
  split <;> simp

@[simp] theorem clearCountersEffect_mem : (clearCountersEffect s).mem = s.mem := by simp [clearCountersEffect]

@[simp] theorem writeConfig_mem (item : Byte) (v : Word) : (writeConfig item v s).mem = s.mem := by
  unfold writeConfig
  split <;> rfl

@[simp] theorem writeRoutes_mem (v : Word) : (writeRoutes v s).mem = s.mem := by simp [writeRoutes]

@[simp] theorem clearFlags_mem (v : Word) : (clearFlags v s).mem = s.mem := by
  unfold clearFlags
  split <;> rfl

@[simp] theorem reportLoad_mem (detail : Detail) : (reportLoad detail s).mem = s.mem := by
  simp only [reportLoad, apply_ite State.mem, endCommand_mem, raise_mem, ite_self]

@[simp] theorem failLoad_mem (state : LoadState) (index : Byte) (detail : Detail) :
    (failLoad state index detail s).mem = s.mem := by simp [failLoad]

/-! ### Pairing and the link -/

@[simp] theorem cancelPromote_mem : (cancelPromote s).mem = s.mem := by simp [cancelPromote_eq]

@[simp] theorem leaveUpCore_mem (new : LinkState) : (leaveUpCore new s).mem = s.mem := by
  unfold leaveUpCore
  split <;> simp

@[simp] theorem leaveActive_mem : (leaveActive s).mem = s.mem := by simp [leaveActive]

@[simp] theorem leaveRole_mem : (leaveRole s).mem = s.mem := by
  unfold leaveRole
  split <;> simp

@[simp] theorem roleLink_mem : (roleLink s).mem = s.mem := by
  unfold roleLink
  split <;> simp

@[simp] theorem handoverCancel_mem (reason : Reason) : (handoverCancel reason s).mem = s.mem := by
  simp [handoverCancel]

@[simp] theorem enableLink_mem : (enableLink s).mem = s.mem := rfl

@[simp] theorem setPartner_mem (v : PartnerView) : (setPartner v s).mem = s.mem := by
  simp only [setPartner, apply_ite State.mem, pauseWalker_mem, ite_self]

@[simp] theorem judgeFall_mem (old : PartnerView) (role : Role) (c : Consistency) :
    (judgeFall old role c s).mem = s.mem := by
  unfold judgeFall
  split <;> simp

@[simp] theorem refuse_mem (req : HostReq) : (refuse req s).mem = s.mem := by simp [refuse]

@[simp] theorem restartLoadOrRole_mem : (restartLoadOrRole s).mem = s.mem := by
  unfold restartLoadOrRole
  split <;> rfl

/-! ### The receiver -/

@[simp] theorem badFrame_mem (next : Assembler) : (badFrame next s).mem = s.mem := by simp [badFrame]

@[simp] theorem placeFrame_mem (f : Frame) : (placeFrame f s).mem = s.mem := by
  unfold placeFrame
  split <;> rfl

@[simp] theorem assembleInFrame_mem (t : FrameType) (data : List Byte) (crc : Half) (sym : RxSymbol) :
    (assembleInFrame t data crc sym s).mem = s.mem := by
  cases sym with
  | data b =>
    simp only [assembleInFrame, collect]
    split <;> simp
  | eof =>
    simp only [assembleInFrame, judgeFrame]
    split <;> simp
  | sof | abort | error => simp [assembleInFrame]

@[simp] theorem assemble_mem (sym : RxSymbol) : (assemble sym s).mem = s.mem := by
  unfold assemble
  split <;> simp

@[simp] theorem takeCharacter_mem (bits : BitVec 12) : (takeCharacter bits s).mem = s.mem := by
  unfold takeCharacter
  split <;> simp [characterError]

/-! ### The apply engine -/

@[simp] theorem recordApplied_mem : (recordApplied s).mem = s.mem := by simp [recordApplied]

@[simp] theorem applyFault_mem (cause : FaultCause) (seq : Half) (addr : WordAddr) :
    (applyFault cause seq addr s).mem = s.mem := by simp [applyFault]

@[simp] theorem acceptBegin_mem (seq epoch : Half) (scope : Scope) :
    (acceptBegin seq epoch scope s).mem = s.mem := by simp [acceptBegin]

@[simp] theorem outOfTurn_mem : (outOfTurn s).mem = s.mem := by
  unfold outOfTurn
  split <;> rfl

/-! ### Operations that withdraw the internal request (R74, R121, R130, R131, R153) -/

@[simp] theorem resyncStart_mem : (resyncStart s).mem = withdrawn s.mem := by
  simp only [resyncStart, askMarker_mem, withdrawInternal_mem, apply_ite State.mem, beginFull_mem, ite_self]

@[simp] theorem spillCore_mem : (spillCore s).mem = withdrawn s.mem := by
  simp only [spillCore, raise_mem, discard_mem, apply_ite State.mem, stopWalker_mem, withdrawInternal_mem, ite_self]

@[simp] theorem resyncComplete_mem : (resyncComplete s).mem = withdrawn s.mem := by simp [resyncComplete]

@[simp] theorem resyncAbandon_mem : (resyncAbandon s).mem = withdrawn s.mem := by simp [resyncAbandon]

@[simp] theorem changeRole_mem (new : Role) : (changeRole new s).mem = withdrawn s.mem := by simp [changeRole]

@[simp] theorem promote_mem : (promote s).mem = withdrawn s.mem := by simp [promote]

@[simp] theorem handoverComplete_mem (outcome : Detail) (epoch seq : Half) :
    (handoverComplete outcome epoch seq s).mem = withdrawn s.mem := by simp [handoverComplete]

@[simp] theorem warmEffects_mem : (warmEffects s).mem = withdrawn s.mem := rfl

end Sys2Proof.Machine
end

section
/-! PROOFS. The memory port as a transition system: its elementary moves (R151 to R153), and each command of the
unit as a run of them. -/

namespace Sys2Proof.Machine

/-- The elementary moves of the memory port: the internal request is withdrawn (R153), the bus becomes free, the
internal requester asks (R151), the arbiter grants a free bus (R152), a cold reset (R156). -/
inductive PortMove : MemPort → MemPort → Prop
  | withdraw (m : MemPort) : PortMove m (withdrawn m)
  | free (m : MemPort) : PortMove m { m with bus := none }
  | ask (op : InternalOp) (m : MemPort) : PortMove m (requested op m)
  | grant (host : Option HostReq) (m : MemPort) (bus : m.bus = none) : PortMove m (arbitrate host m)
  | reset (m : MemPort) : PortMove m MemPort.reset

/-- A run of elementary moves of the memory port. -/
def PortMoves : MemPort → MemPort → Prop := Relation.ReflTransGen PortMove

section
variable {m : MemPort} {s t u : State}

theorem PortMoves.refl : PortMoves m m := Relation.ReflTransGen.refl

/-- An operation that leaves the port alone lengthens no run. -/
theorem PortMoves.frame (e : t.mem = s.mem) (h : PortMoves m s.mem) : PortMoves m t.mem := e.symm ▸ h

theorem PortMoves.withdraw (e : t.mem = withdrawn s.mem) (h : PortMoves m s.mem) : PortMoves m t.mem :=
  e.symm ▸ Relation.ReflTransGen.tail h (.withdraw _)

theorem PortMoves.free (h : PortMoves m s.mem) : PortMoves m (freeBus s).mem :=
  Relation.ReflTransGen.tail h (.free _)

theorem PortMoves.ask (op : InternalOp) (h : PortMoves m s.mem) : PortMoves m (askInternal op s).mem :=
  Relation.ReflTransGen.tail h (.ask op _)

/-- Whichever branch is taken, the port has only made moves. -/
theorem PortMoves.ite {c : Prop} [Decidable c] (yes : PortMoves m t.mem) (no : PortMoves m u.mem) :
    PortMoves m (if c then t else u).mem := by
  split
  · exact yes
  · exact no

end

section
variable {m : MemPort} {s : State}

/-! ### Spills, roles and handovers -/

theorem portMoves_resyncAfterSpill (h : PortMoves m s.mem) : PortMoves m (resyncAfterSpill s).mem :=
  .ite (.withdraw (resyncStart_mem _) h) h

theorem portMoves_spill (h : PortMoves m s.mem) : PortMoves m (spill s).mem :=
  portMoves_resyncAfterSpill (.withdraw (spillCore_mem _) h)

theorem portMoves_takeHandoverRole (h : PortMoves m s.mem) : PortMoves m (takeHandoverRole s).mem := by
  unfold takeHandoverRole
  split
  · exact .withdraw (changeRole_mem _ _) h
  · exact h

theorem portMoves_handoverOffUp (h : PortMoves m s.mem) : PortMoves m (handoverOffUp s).mem := by
  unfold handoverOffUp
  refine .ite ?_ h
  split
  · exact .withdraw (handoverComplete_mem _ _ _ _) h
  · exact .frame (handoverCancel_mem _ _) h

theorem portMoves_leaveUp (new : LinkState) (h : PortMoves m s.mem) : PortMoves m (leaveUp new s).mem :=
  .ite (portMoves_handoverOffUp (portMoves_takeHandoverRole (.frame (leaveUpCore_mem _ _) h))) h

theorem portMoves_loseLink (h : PortMoves m s.mem) : PortMoves m (loseLink s).mem :=
  .frame (raise_mem _ _) (portMoves_leaveUp _ h)

theorem portMoves_abandonHeld (h : PortMoves m s.mem) : PortMoves m (abandonHeld s).mem :=
  .ite (.withdraw (withdrawInternal_mem _) h) h

theorem portMoves_enterStartRole (h : PortMoves m s.mem) : PortMoves m (enterStartRole s).mem := by
  unfold enterStartRole
  split
  · exact h
  · exact .withdraw (changeRole_mem _ _) h
  · exact .withdraw (changeRole_mem _ _) h

/-! ### Answers of the partner -/

theorem portMoves_reportEnd (removed : List Rec) (h : PortMoves m s.mem) : PortMoves m (reportEnd removed s).mem :=
  .ite (.withdraw (resyncComplete_mem _) h) h

theorem portMoves_reportHandover (removed : List Rec) (h : PortMoves m s.mem) :
    PortMoves m (reportHandover removed s).mem := by
  unfold reportHandover
  split
  · exact .ite (.withdraw (handoverComplete_mem _ _ _ _) h) h
  · exact h

theorem portMoves_removeBehind (n : Half) (h : PortMoves m s.mem) : PortMoves m (removeBehind n s).mem :=
  portMoves_reportHandover _ (portMoves_reportEnd _ (.ite (.frame (endConfirmWait_mem _ _) h) h))

theorem portMoves_takeAck (n : Half) (h : PortMoves m s.mem) : PortMoves m (takeAck n s).mem :=
  .ite (.ite h (.ite (portMoves_removeBehind n h) (portMoves_leaveUp _ h))) h

theorem portMoves_takeNak (n : Half) (h : PortMoves m s.mem) : PortMoves m (takeNak n s).mem :=
  .ite (.ite h (.ite h
    (.ite (.frame (returnSent_mem _) (portMoves_removeBehind n h)) (portMoves_leaveUp _ h)))) h

/-! ### The link -/

theorem portMoves_resumeDecision (h : PortMoves m s.mem) : PortMoves m (resumeDecision s).mem :=
  .ite (.frame (resumeWalker_mem _) (.frame (returnSent_mem _) (portMoves_removeBehind _ h)))
    (.withdraw (resyncStart_mem _) h)

theorem portMoves_enterUp (h : PortMoves m s.mem) : PortMoves m (enterUp s).mem := by
  have up : PortMoves m (cancelPromote s).mem := .frame (cancelPromote_mem _) h
  exact .frame (raise_mem _ _) (.ite (portMoves_resumeDecision up) up)

theorem portMoves_checkHandshake (digest : Half) (role : Role) (h : PortMoves m s.mem) :
    PortMoves m (checkHandshake digest role s).mem := by
  unfold checkHandshake
  split
  · exact .ite h (.frame (raise_mem _ _) h)
  · exact .ite h (.frame (raise_mem _ _) h)
  · exact portMoves_enterUp h

theorem portMoves_linkOff (h : PortMoves m s.mem) : PortMoves m (linkOff s).mem :=
  .ite (portMoves_leaveUp _ h) h

theorem portMoves_disableLink (h : PortMoves m s.mem) : PortMoves m (disableLink s).mem :=
  portMoves_takeHandoverRole (portMoves_linkOff h)

theorem portMoves_followLinkControl (oldEnable : Bool) (oldRate : LinkRate) (h : PortMoves m s.mem) :
    PortMoves m (followLinkControl oldEnable oldRate s).mem := by
  unfold followLinkControl
  split
  · exact h
  · exact portMoves_disableLink h
  · exact .ite h (.frame (enableLink_mem _) (portMoves_disableLink h))
  · exact h

/-! ### HELLO and PULSE -/

theorem portMoves_completeByHello (f : Hello) (h : PortMoves m s.mem) : PortMoves m (completeByHello f s).mem := by
  unfold completeByHello
  split
  · exact .ite (.withdraw (handoverComplete_mem _ _ _ _) h) h
  · exact h

theorem portMoves_staleGuard (f : Hello) (h : PortMoves m s.mem) : PortMoves m (staleGuard f s).mem :=
  .ite (portMoves_abandonHeld h) h

theorem portMoves_helloEffect (found : LinkState) (f : Hello) (h : PortMoves m s.mem) :
    PortMoves m (helloEffect found f s).mem := by
  cases found with
  | off | down => exact h
  | handshake => exact .ite (portMoves_checkHandshake _ _ h) h
  | up => exact portMoves_leaveUp _ h
  | conflict | mismatch => exact .ite (portMoves_checkHandshake _ _ h) h

theorem portMoves_takeHello (f : Hello) (h : PortMoves m s.mem) : PortMoves m (takeHello f s).mem :=
  .frame (judgeFall_mem _ _ _ _) (portMoves_helloEffect _ f (portMoves_staleGuard f
    (.frame (setPartner_mem _ _) (portMoves_completeByHello f h))))

theorem portMoves_pulseEffect (found : LinkState) (p : Pulse) (h : PortMoves m s.mem) :
    PortMoves m (pulseEffect found p s).mem := by
  unfold pulseEffect
  split
  · exact .ite (portMoves_enterUp h) h
  · exact .ite (portMoves_takeAck _ h) h
  · exact h

theorem portMoves_takePulse (p : Pulse) (h : PortMoves m s.mem) : PortMoves m (takePulse p s).mem :=
  .frame (judgeFall_mem _ _ _ _) (portMoves_pulseEffect _ p (.frame (setPartner_mem _ _) h))

/-! ### Expiries of the pairing controller -/

theorem portMoves_retryExpired (h : PortMoves m s.mem) : PortMoves m (retryExpired s).mem :=
  .ite h (portMoves_loseLink h)

theorem portMoves_promoteExpired (h : PortMoves m s.mem) : PortMoves m (promoteExpired s).mem :=
  .ite (.withdraw (promote_mem _) h) h

/-! ### Host requests -/

theorem portMoves_askReservation (req : HostReq) (counted : Bool) (h : PortMoves m s.mem) :
    PortMoves m (askReservation req counted s).mem :=
  .ite h (.ite h (portMoves_spill h))

theorem portMoves_acceptMirrored (req : HostReq) (counted : Bool) (h : PortMoves m s.mem) :
    PortMoves m (acceptMirrored req counted s).mem := by
  unfold acceptMirrored
  split
  · exact h
  · exact h
  · exact portMoves_askReservation req counted h
  · exact portMoves_askReservation req counted h
  · exact h

theorem portMoves_acceptRequest (req : HostReq) (counted : Bool) (h : PortMoves m s.mem) :
    PortMoves m (acceptRequest req counted s).mem := by
  unfold acceptRequest
  split
  · exact h
  · exact h
  · exact .ite (.frame (refuse_mem _ _) h) h
  · exact .ite (portMoves_acceptMirrored req counted h) h

theorem portMoves_reclassify (req : HostReq) (counted : Bool) (h : PortMoves m s.mem) :
    PortMoves m (reclassify req counted s).mem :=
  portMoves_acceptRequest req counted h

/-! ### The end of a step -/

theorem portMoves_settleHold (h : PortMoves m s.mem) : PortMoves m (settleHold s).mem := by
  unfold settleHold
  split
  · exact .ite (.ite h (portMoves_reclassify _ _ (portMoves_spill h))) (portMoves_reclassify _ _ h)
  · exact .ite h (portMoves_reclassify _ _ h)
  · exact h

/-- Of the frames that may start only an ACK or NAK touches the port: a pending handover is taken there (R93). -/
theorem portMoves_schedule (h : PortMoves m s.mem) : PortMoves m (schedule s).mem := by
  rcases schedule_cases s with ⟨_, e⟩ | ⟨_, _, e⟩ | ⟨_, _, _, e⟩ | ⟨_, _, _, _, _, e⟩ | ⟨_, _, _, _, _, e⟩ | ⟨_, _, e⟩
    <;> rw [e]
  case inr.inr.inl => exact portMoves_takeHandoverRole h
  all_goals exact h

theorem portMoves_finish (h : PortMoves m s.mem) : PortMoves m (finish s).mem :=
  portMoves_schedule (portMoves_settleHold h)

/-! ### Loads and the end of a warm reset -/

theorem portMoves_commitLoad (staging : Settings) (h : PortMoves m s.mem) :
    PortMoves m (commitLoad staging s).mem :=
  .frame (reportLoad_mem _ _) (portMoves_enterStartRole (portMoves_followLinkControl _ _ h))

theorem portMoves_warmEnd (h : PortMoves m s.mem) : PortMoves m (warmEnd s).mem := by
  have restarted : PortMoves m (restartLoadOrRole { s with phase := .running }).mem :=
    .frame (restartLoadOrRole_mem _) h
  exact portMoves_schedule (.ite restarted restarted)

/-! ### Memory's answer to a host request -/

theorem portMoves_captureBySpill (req : HostReq) (cls : HostClass) (condemned : Bool) (h : PortMoves m s.mem) :
    PortMoves m (captureBySpill req cls condemned s).mem :=
  .frame (answerUnconfirmed_mem _ _ _) (portMoves_resyncAfterSpill (.withdraw (spillCore_mem _) h))

theorem portMoves_capture (req : HostReq) (cls : HostClass) (condemned : Bool) (h : PortMoves m s.mem) :
    PortMoves m (capture req cls condemned s).mem :=
  .ite (.ite (.frame (captureConfirm_mem _ _ _ _ _) h) (portMoves_captureBySpill _ _ _ h))
    (.ite (.frame (joinWrite_mem _ _ _) h)
      (.ite (.frame (openWrite_mem _ _ _) h) (portMoves_captureBySpill _ _ _ h)))

theorem portMoves_captureAnswer (req : HostReq) (cls : HostClass) (condemned : Bool) (h : PortMoves m s.mem) :
    PortMoves m (captureAnswer req cls condemned s).mem := by
  unfold captureAnswer
  refine .ite ?_ (.frame (answerUnconfirmed_mem _ _ _) h)
  split
  · exact .frame (answerUnconfirmed_mem _ _ _) h
  · exact .frame (answerUnconfirmed_mem _ _ _) h
  · exact .ite h (portMoves_capture _ _ _ h)
  · exact portMoves_capture _ _ _ h
  · exact portMoves_capture _ _ _ h

theorem portMoves_hostAnswer (answer : MemAnswer) (req : HostReq) (cls : HostClass) (condemned : Bool)
    (h : PortMoves m s.mem) : PortMoves m (hostAnswer answer req cls condemned s).mem := by
  unfold hostAnswer
  refine .ite ?_ h
  cases answer with
  | ok data => exact portMoves_captureAnswer _ _ _ h
  | fault => exact h

/-! ### The apply engine -/

theorem portMoves_issueWord (r : HeldRecord) (h : PortMoves m s.mem) : PortMoves m (issueWord r s).mem := by
  unfold issueWord
  split
  · exact .ask _ h
  · exact .frame (recordApplied_mem _) h

theorem portMoves_applyHandover (seq epoch : Half) (h : PortMoves m s.mem) :
    PortMoves m (applyHandover seq epoch s).mem := by
  have applied : PortMoves m (recordApplied s).mem := .frame (recordApplied_mem _) h
  exact .ite applied (portMoves_takeHandoverRole applied)

theorem portMoves_applyInTurn (seq : Half) (body : RecordBody) (h : PortMoves m s.mem) :
    PortMoves m (applyInTurn seq body s).mem := by
  cases body with
  | data => exact .ite (portMoves_issueWord _ h) (.frame (applyFault_mem _ _ _ _) h)
  | beginMark | endMark => exact .frame (recordApplied_mem _) h
  | handoverMark epoch => exact portMoves_applyHandover seq epoch h

theorem portMoves_judgeSequence (seq : Half) (body : RecordBody) (h : PortMoves m s.mem) :
    PortMoves m (judgeSequence seq body s).mem :=
  .ite (portMoves_applyInTurn seq body h) (.ite (.frame (askAck_mem _) h) (.frame (outOfTurn_mem _) h))

theorem portMoves_judgeRecord (seq : Half) (body : RecordBody) (h : PortMoves m s.mem) :
    PortMoves m (judgeRecord seq body s).mem := by
  unfold judgeRecord
  split
  · exact .frame (acceptBegin_mem _ _ _ _) h
  · exact .ite (portMoves_judgeSequence seq _ h) (.frame (acceptBegin_mem _ _ _ _) h)
  · exact h
  · exact portMoves_judgeSequence seq _ h

theorem portMoves_applyAnswer (answer : MemAnswer) (r : HeldRecord) (h : PortMoves m s.mem) :
    PortMoves m (applyAnswer answer r s).mem := by
  cases answer with
  | ok data => exact portMoves_issueWord _ h
  | fault => exact .frame (applyFault_mem _ _ _ _) h

/-- A disowned answer frees the bus, and a requester that has waited for it asks (R151, R153; log 36). -/
theorem portMoves_discardAnswer (h : PortMoves m s.mem) : PortMoves m (discardAnswer s).mem := by
  unfold discardAnswer askAgain
  cases neededOp (freeBus s) with
  | none => exact PortMoves.free (s := s) h
  | some op => exact .ask op (PortMoves.free (s := s) h)

/-! ### The walker and the auto-resync reflex -/

theorem portMoves_walkerRead (data : Word) (h : PortMoves m s.mem) : PortMoves m (walkerRead data s).mem :=
  .ite (.ask _ h) (.frame (chunkClosed_mem _) h)

theorem portMoves_autoResync (h : PortMoves m s.mem) : PortMoves m (autoResync s).mem := by
  unfold autoResync
  split
  · exact .withdraw (resyncStart_mem _) h
  · exact .withdraw (resyncStart_mem _) h
  · exact .ite h (.withdraw (resyncStart_mem _) (.frame (handoverCancel_mem _ _) h))
  · exact h
  · exact h

/-! ### The management port -/

theorem portMoves_transaction (target : BitVec 7) (bytes : Nat) {taken : State → State}
    (move : ∀ {t : State}, PortMoves m t.mem → PortMoves m (taken t).mem) (h : PortMoves m s.mem) :
    PortMoves m (transaction target bytes taken s).mem :=
  .ite (move h) h

theorem portMoves_writeTransaction (target : BitVec 7) (item : Byte) {own : State → State}
    (move : ∀ {t : State}, PortMoves m t.mem → PortMoves m (own t).mem) (h : PortMoves m s.mem) :
    PortMoves m (writeTransaction target item own s).mem := by
  refine portMoves_transaction target _ (fun {t} h => ?_) h
  dsimp only
  split
  · exact h
  · exact .ite h (.ite h (move h))

theorem portMoves_takeCommand (c : Command) {own : State → State}
    (move : ∀ {t : State}, PortMoves m t.mem → PortMoves m (own t).mem) (h : PortMoves m s.mem) :
    PortMoves m (takeCommand c own s).mem := by
  have taken : PortMoves m (if isRoleCommand c then cancelPromote (setAccess .ok s) else setAccess .ok s).mem :=
    .ite (.frame (cancelPromote_mem _) h) h
  exact .ite (.frame (refusedBusy_mem _ _) taken) (move taken)

theorem portMoves_restartEffect (h : PortMoves m s.mem) : PortMoves m (restartEffect s).mem :=
  portMoves_warmEnd (.withdraw (warmEffects_mem _) (.frame (doneAtOnce_mem _ _) h))

/-- What a command of the slot makes of the port (R177). -/
theorem portMoves_commandEffect (c : Command) (h : PortMoves m s.mem) : PortMoves m (commandEffect c s).mem := by
  cases c with
  | setActive =>
    simp only [commandEffect, setActiveEffect]
    split
    · exact portMoves_finish (.frame (doneAtOnce_mem _ _) (.withdraw (changeRole_mem _ _) h))
    · exact .ite (.frame (refusedAtOnce_mem _ _ _) h)
        (portMoves_finish (.frame (doneAtOnce_mem _ _) (.withdraw (promote_mem _) h)))
    · exact .frame (doneAtOnce_mem _ _) h
  | setStandby | setNone =>
    exact .ite (.frame (doneAtOnce_mem _ _) h)
      (portMoves_finish (.frame (doneAtOnce_mem _ _) (.withdraw (changeRole_mem _ _) h)))
  | handover =>
    simp only [commandEffect, handoverEffect]
    split
    · exact .frame (refusedAtOnce_mem _ _ _) h
    · exact portMoves_finish h
  | resync =>
    simp only [commandEffect, resyncEffect]
    split
    · exact .frame (refusedAtOnce_mem _ _ _) h
    · exact portMoves_finish (.frame (doneAtOnce_mem _ _) (.withdraw (resyncStart_mem _) h))
  | restart => exact portMoves_restartEffect h
  | reload => exact .frame (reloadEffect_mem _) h
  | clearCounters => exact .frame (clearCountersEffect_mem _) h

theorem portMoves_writeCommand (v : Word) (h : PortMoves m s.mem) : PortMoves m (writeCommand v s).mem := by
  unfold writeCommand
  split
  · exact portMoves_takeCommand _ (portMoves_commandEffect _) h
  · exact h

theorem portMoves_writeLinkControl (v : Word) (h : PortMoves m s.mem) : PortMoves m (writeLinkControl v s).mem :=
  portMoves_finish (portMoves_followLinkControl _ _ (.frame (writeConfig_mem _ _ _) h))

theorem portMoves_writeOwn (item : Byte) (v : Word) (h : PortMoves m s.mem) :
    PortMoves m (writeOwn item v s).mem := by
  unfold writeOwn
  split
  · exact .frame (clearFlags_mem _ _) h
  · exact portMoves_writeCommand v h
  · exact .ite (.frame (writeRoutes_mem _ _) h)
      (.ite (portMoves_writeLinkControl v h) (.frame (writeConfig_mem _ _ _) h))
  · exact h

end

end Sys2Proof.Machine
end

section
/-! PROOFS. Every command's effect on the memory port is a run of its moves; the arbiter's choice and the fairness
count (R152, R153). -/

namespace Sys2Proof.Machine

section
variable {s u : State}

/-- The port after a command that completes has only made its elementary moves. -/
def StepMoves (s : State) (outcome : Host.Outcome State Fault Refusal) : Prop :=
  ∀ t : State, outcome = .next t → PortMoves s.mem t.mem

theorem StepMoves.next (h : PortMoves s.mem u.mem) : StepMoves s (.next u) := by
  rintro t ⟨⟩
  exact h

end

section
variable (s : State)

/-! ### Commands that look at the port, the receive buffer or the list -/

theorem stepMoves_coldResetEnd (addr : BitVec 2) (loadEn : Bool) : StepMoves s (execColdResetEnd addr loadEn s) := by
  have started : PortMoves s.mem (coldStart addr loadEn s).mem := .single (.reset _)
  exact .next (.ite (.ite started (.frame (raise_mem _ _) started)) .refl)

theorem stepMoves_warmResetEnd : StepMoves s (execWarmResetEnd s) := by
  refine .next (.ite ?_ .refl)
  split
  · exact .refl
  · exact portMoves_warmEnd .refl
  · exact .ite .refl .refl

theorem stepMoves_loadCommit (image : List Bool) : StepMoves s (execLoadCommit image s) := by
  refine .next (.ite ?_ .refl)
  split
  · exact portMoves_finish (portMoves_commitLoad _ .refl)
  · exact .refl

theorem stepMoves_loadFail (image : List Bool) : StepMoves s (execLoadFail image s) := by
  refine .next (.ite ?_ .refl)
  split
  · exact .frame (failLoad_mem _ _ _ _) .refl
  · exact .frame (failLoad_mem _ _ _ _) .refl
  · exact .refl

theorem stepMoves_memoryGrant : StepMoves s (execMemoryGrant s) := by
  refine .next ?_
  split
  case isTrue free => exact .single (.grant _ _ free.2)
  case isFalse => exact .refl

theorem stepMoves_hostMemoryAnswer (answer : MemAnswer) : StepMoves s (execHostMemoryAnswer answer s) := by
  refine .next ?_
  split
  · exact portMoves_finish (portMoves_hostAnswer _ _ _ _ (PortMoves.free (s := s) .refl))
  · exact .refl

theorem stepMoves_holdReserved : StepMoves s (execHoldReserved s) := by
  refine .next ?_
  split
  · exact .ite .refl .refl
  · exact .refl

theorem stepMoves_holdTimerExpiry : StepMoves s (execHoldTimerExpiry s) := by
  refine .next ?_
  split
  · exact .ite (portMoves_finish (portMoves_reclassify _ _ (portMoves_spill (.frame (raise_mem _ _) .refl)))) .refl
  · exact .refl

theorem stepMoves_helloReceived : StepMoves s (execHelloReceived s) := by
  refine .next ?_
  split
  · exact portMoves_finish (portMoves_takeHello _ .refl)
  · exact .refl

theorem stepMoves_pulseReceived : StepMoves s (execPulseReceived s) := by
  refine .next ?_
  split
  · exact portMoves_finish (portMoves_takePulse _ .refl)
  · exact .refl

theorem stepMoves_ackReceived : StepMoves s (execAckReceived s) := by
  refine .next ?_
  split
  · exact .ite (portMoves_finish (portMoves_takeAck _ .refl)) .refl
  · exact .refl

theorem stepMoves_nakReceived : StepMoves s (execNakReceived s) := by
  refine .next ?_
  split
  · exact .ite (portMoves_finish (portMoves_takeNak _ .refl)) .refl
  · exact .refl

theorem stepMoves_frameDiscarded : StepMoves s (execFrameDiscarded s) := by
  refine .next ?_
  split
  · exact .ite .refl .refl
  · exact .refl

theorem stepMoves_recordTaken : StepMoves s (execRecordTaken s) := by
  refine .next ?_
  split
  · exact .ite (portMoves_finish (portMoves_judgeRecord _ _ .refl)) .refl
  · exact .refl

theorem stepMoves_applyWriteAnswer (answer : MemAnswer) : StepMoves s (execApplyWriteAnswer answer s) := by
  refine .next ?_
  split
  · split
    · exact portMoves_finish (portMoves_applyAnswer _ _ (.free .refl))
    · exact portMoves_discardAnswer .refl
  · exact .refl

theorem stepMoves_lossTimerExpiry : StepMoves s (execLossTimerExpiry s) := by
  refine .next (.ite ?_ .refl)
  split
  · exact portMoves_finish (portMoves_loseLink .refl)
  · exact portMoves_finish .refl
  · exact portMoves_finish .refl
  · exact portMoves_finish .refl
  · exact .refl
  · exact .refl

theorem stepMoves_markerAppend : StepMoves s (execMarkerAppend s) := by
  refine .next ?_
  split
  · exact .ite (portMoves_finish .refl) .refl
  · exact .refl

theorem stepMoves_walkerTakeBlock : StepMoves s (execWalkerTakeBlock s) := by
  refine .next (.ite ?_ .refl)
  split
  · exact .frame (takeBlock_mem _ _) .refl
  · exact portMoves_finish (.frame (finishWalk_mem _) .refl)

theorem stepMoves_walkerReadAnswer (answer : MemAnswer) : StepMoves s (execWalkerReadAnswer answer s) := by
  refine .next ?_
  split
  · refine .ite (portMoves_discardAnswer .refl) ?_
    cases answer with
    | ok data => exact portMoves_finish (portMoves_walkerRead _ (.free .refl))
    | fault => exact portMoves_finish (.withdraw (resyncAbandon_mem _) (.free .refl))
  · exact .refl

/-! ### Writes on the management port -/

theorem stepMoves_write (target : BitVec 7) (item : Byte) {own : State → State}
    (move : ∀ {t : State}, PortMoves s.mem t.mem → PortMoves s.mem (own t).mem) :
    StepMoves s (.next (writeTransaction target item own s)) :=
  .next (portMoves_writeTransaction target item move .refl)

theorem stepMoves_command (target : BitVec 7) (c : Command) :
    StepMoves s (.next (commandTransaction target c (commandEffect c) s)) :=
  stepMoves_write s target _ (portMoves_takeCommand c (portMoves_commandEffect c))

/-! ### All commands -/

/-- Whatever a command does, its effect on the memory port is a run of the port's own moves (R151 to R153). -/
theorem exec_stepMoves (c : Instr) : StepMoves s (exec c s) := by
  cases c with
  | coldReset => exact .next (.single (.reset _))
  | coldResetEnd addr loadEn => exact stepMoves_coldResetEnd s addr loadEn
  | warmReset => exact .next (.ite .refl (.ite .refl (.withdraw (warmEffects_mem _) .refl)))
  | warmResetEnd => exact stepMoves_warmResetEnd s
  | loadCommit image => exact stepMoves_loadCommit s image
  | loadFail image => exact stepMoves_loadFail s image
  | hostRequest => exact .next (.ite (portMoves_finish (portMoves_acceptRequest _ _ .refl)) .refl)
  | memoryGrant => exact stepMoves_memoryGrant s
  | hostMemoryAnswer answer => exact stepMoves_hostMemoryAnswer s answer
  | coalesceTimerExpiry => exact .next (.ite (portMoves_finish .refl) .refl)
  | holdReserved => exact stepMoves_holdReserved s
  | holdTimerExpiry => exact stepMoves_holdTimerExpiry s
  | confirmTimerExpiry => exact .next (.ite (.frame (failConfirmWait_mem _) .refl) .refl)
  | linkCharacter bits => exact .next (.ite (.frame (takeCharacter_mem _ _) .refl) .refl)
  | helloReceived => exact stepMoves_helloReceived s
  | pulseReceived => exact stepMoves_pulseReceived s
  | ackReceived => exact stepMoves_ackReceived s
  | nakReceived => exact stepMoves_nakReceived s
  | frameDiscarded => exact stepMoves_frameDiscarded s
  | recordTaken => exact stepMoves_recordTaken s
  | applyWriteAnswer answer => exact stepMoves_applyWriteAnswer s answer
  | frameEnd => exact .next (.ite .refl (portMoves_finish .refl))
  | pulseTimerExpiry | helloIntervalExpiry => exact .next (.ite (portMoves_finish .refl) .refl)
  | retryTimerExpiry => exact .next (.ite (portMoves_finish (portMoves_retryExpired .refl)) .refl)
  | lossTimerExpiry => exact stepMoves_lossTimerExpiry s
  | promoteTimerExpiry => exact .next (.ite (portMoves_finish (portMoves_promoteExpired .refl)) .refl)
  | drainTimerExpiry => exact .next (.ite (portMoves_finish (.frame (handoverCancel_mem _ _) .refl)) .refl)
  | handoverMarkerAppend => exact .next (.ite (portMoves_finish .refl) .refl)
  | markerAppend => exact stepMoves_markerAppend s
  | walkerTakeBlock => exact stepMoves_walkerTakeBlock s
  | walkerOpenSync => exact .next (.ite (portMoves_finish (.ask _ .refl)) .refl)
  | walkerReadAnswer answer => exact stepMoves_walkerReadAnswer s answer
  | autoResyncTaken => exact .next (.ite (portMoves_finish (portMoves_autoResync .refl)) .refl)
  | setActive target => exact stepMoves_command s target .setActive
  | setStandby target => exact stepMoves_command s target .setStandby
  | setNone target => exact stepMoves_command s target .setNone
  | handover target => exact stepMoves_command s target .handover
  | resync target => exact stepMoves_command s target .resync
  | restart target => exact stepMoves_command s target .restart
  | reload target => exact stepMoves_command s target .reload
  | clearCounters target => exact stepMoves_command s target .clearCounters
  | eventClear target d => exact stepMoves_write s target _ (.frame (clearFlags_mem _ _))
  | eventRoutes target d => exact stepMoves_write s target _ (.frame (writeRoutes_mem _ _))
  | linkControl target d => exact stepMoves_write s target _ (portMoves_writeLinkControl _)
  | regionSpan target n d => exact stepMoves_write s target _ (.frame (writeConfig_mem _ _ _))
  | regionMode target n d => exact stepMoves_write s target _ (.frame (writeConfig_mem _ _ _))
  | itemWrite target item d => exact stepMoves_write s target _ (portMoves_writeOwn _ _)
  | itemSelect => exact .next (portMoves_transaction _ _ id .refl)
  | shortWrite => exact .next (portMoves_transaction _ _ id .refl)
  | receiverResumesHunting => exact .next (.ite .refl .refl)
  | itemRead => exact .next (portMoves_transaction _ _ id .refl)

end

/-! ### The arbiter's choice (R152) -/

section
variable {s : State} {m : MemPort} {req : HostReq} {cls : HostClass} {cond : Bool} {op : InternalOp}

theorem hostPathRequest_of_forwarded (h : s.host.port = .forwarded req cls cond) :
    hostPathRequest s = some req := by
  simp [hostPathRequest, h]

theorem hostPathRequest_of_not_forwarded (h : ∀ req cls cond, s.host.port ≠ .forwarded req cls cond) :
    hostPathRequest s = none := by
  unfold hostPathRequest
  split
  case h_1 req cls cond hp => exact absurd hp (h req cls cond)
  case h_2 => rfl

/-- Only the host path waits: it is granted, and the count stays. -/
theorem arbitrate_host (hw : m.waiting = none) :
    arbitrate (some req) m = { m with bus := some (.host req) } := by
  simp [arbitrate, hw, grantHost]

/-- Only the internal requester waits: it is granted, and the count becomes 0. -/
theorem arbitrate_internal (hw : m.waiting = some op) :
    arbitrate none m = { bus := some (.internal op false), waiting := none, fairness := 0 } := by
  simp [arbitrate, hw, grantInternal]

/-- Both wait below the limit: the host path is granted, and the count rises. -/
theorem arbitrate_both_of_lt (hw : m.waiting = some op) (h : m.fairness < Config.fairnessLimit) :
    arbitrate (some req) m = { m with bus := some (.host req), fairness := m.fairness + 1 } := by
  simp [arbitrate, hw, h, grantHost]

/-- Both wait at the limit: the internal requester is granted, and the count becomes 0. -/
theorem arbitrate_both_of_le (hw : m.waiting = some op) (h : Config.fairnessLimit ≤ m.fairness) :
    arbitrate (some req) m = { bus := some (.internal op false), waiting := none, fairness := 0 } := by
  simp [arbitrate, hw, h.not_gt, grantInternal]

/-- On a free bus of a unit outside cold reset a MEMORY_GRANT is the arbiter's choice. -/
theorem exec_memoryGrant_of_free (hphase : s.phase ≠ .cold) (hbus : s.mem.bus = none) :
    exec .memoryGrant s = .next { s with mem := arbitrate (hostPathRequest s) s.mem } := by
  simp [exec, execMemoryGrant, hphase, hbus]

end

/-! ### The fairness count at rest (R152, R153) -/

section
variable {m m' : MemPort}

/-- The fairness count is 0 while no internal request waits (R153); a waiting request may stand at any count. -/
def CountAtRest (m : MemPort) : Prop := m.waiting = none → m.fairness = 0

theorem countAtRest_of_waiting (h : m.waiting.isSome) : CountAtRest m := by
  intro absent
  simp [absent] at h

theorem countAtRest_of_zero (h : m.fairness = 0) : CountAtRest m := fun _ => h

/-- A grant to the host path keeps the internal request, and raises the count only beside one; a grant of the
internal requester takes the count to 0. -/
theorem countAtRest_arbitrate (host : Option HostReq) (h : CountAtRest m) : CountAtRest (arbitrate host m) := by
  cases hw : m.waiting with
  | none =>
    cases host with
    | none => simpa [arbitrate, hw] using h
    | some req =>
      rw [arbitrate_host hw]
      exact h
  | some op =>
    cases host with
    | none => exact countAtRest_of_zero (by rw [arbitrate_internal hw])
    | some req =>
      rcases Nat.lt_or_ge m.fairness Config.fairnessLimit with below | atLimit
      · exact countAtRest_of_waiting (by simp [arbitrate_both_of_lt hw below, hw])
      · exact countAtRest_of_zero (by rw [arbitrate_both_of_le hw atLimit])

theorem PortMove.countAtRest (move : PortMove m m') (h : CountAtRest m) : CountAtRest m' := by
  cases move with
  | withdraw => exact countAtRest_of_zero rfl
  | free => exact h
  | ask op =>
    rcases requested_cases op m with ⟨_, e⟩ | ⟨_, e⟩ <;> rw [e]
    · exact h
    · exact countAtRest_of_waiting rfl
  | grant host => exact countAtRest_arbitrate host h
  | reset => exact countAtRest_of_zero rfl

theorem PortMoves.countAtRest (moves : PortMoves m m') (h : CountAtRest m) : CountAtRest m' := by
  induction moves with
  | refl => exact h
  | tail _ move ih => exact move.countAtRest ih

end

/-- A command that leaves no internal request where one waited leaves the count 0: the request was granted or
withdrawn (R152, R153). -/
theorem fairness_of_waiting_gone {c : Instr} {s t : State} (e : exec c s = .next t) (waited : s.mem.waiting.isSome)
    (gone : t.mem.waiting = none) : t.mem.fairness = 0 :=
  (exec_stepMoves s c t e).countAtRest (countAtRest_of_waiting waited) gone

theorem fairness_of_coldReset {s t : State} (e : exec .coldReset s = .next t) : t.mem.fairness = 0 := by
  cases e
  rfl

theorem fairness_of_warmReset {s t : State} (e : exec .warmReset s = .next t) (hw : s.wrst = false)
    (hphase : s.phase ≠ .cold) : t.mem.fairness = 0 := by
  simp only [exec, execWarmReset, hw, hphase, Bool.false_eq_true, if_false] at e
  cases e
  rfl

/-! ### The obligation -/

/-- Settles O14: the grants are the arbiter's cases, and the count at 0 is kept by every move of the port. -/
theorem arbiterGrants : Obligations.ArbiterGrants := by
  refine ⟨fun s hphase hbus => ⟨?host, ?internal, ?both⟩, ?withdrawn, ?cold, ?warm⟩
  case host =>
    intro req cls cond hport hwait
    rw [exec_memoryGrant_of_free hphase hbus, hostPathRequest_of_forwarded hport, arbitrate_host hwait]
  case internal =>
    intro op hport hwait
    rw [exec_memoryGrant_of_free hphase hbus, hostPathRequest_of_not_forwarded hport, arbitrate_internal hwait]
  case both =>
    intro req cls cond op hport hwait
    rw [exec_memoryGrant_of_free hphase hbus, hostPathRequest_of_forwarded hport]
    refine ⟨fun below => ?_, fun atLimit => ?_⟩
    · rw [arbitrate_both_of_lt hwait below]
    · rw [arbitrate_both_of_le hwait atLimit.ge]
  case withdrawn => exact fun c s t => fairness_of_waiting_gone
  case cold => exact fun s t => fairness_of_coldReset
  case warm => exact fun s t => fairness_of_warmReset

end Sys2Proof.Machine
end

section
/-! PROOFS. Every shared operation leaves the ALERT line exact (R161): one that ends by taking an event or by bringing
the line up to date makes it so from any state, and any other leaves the flags, the line and the routes alone. -/

namespace Sys2Proof.Machine

open Sys2Proof.Safety (alertExact)

variable {s t u : State}

/-! ### What makes the line exact -/

/-- The line is exact when it shows the condition of R161. -/
theorem alertExact_iff : alertExact s ↔ s.events.alert = alertCondition s.events.flags s.cfg.routes := by
  simp [alertExact]

/-- Whichever branch is taken, the line is exact. -/
theorem alertExact_ite {c : Prop} [Decidable c] (yes : alertExact t) (no : alertExact u) :
    alertExact (if c then t else u) := by
  split
  · exact yes
  · exact no

/-- An operation that leaves the event unit and the configuration alone leaves the line exact. -/
theorem alertExact_frame (events : t.events = s.events) (cfg : t.cfg = s.cfg) (h : alertExact s) : alertExact t := by
  rw [alertExact_iff, events, cfg]
  exact alertExact_iff.mp h

theorem updateAlert_alertExact (s : State) : alertExact (updateAlert s) := alertExact_iff.mpr rfl

/-- With no flag set the condition of R161 is false, whatever the routes. -/
theorem alertCondition_no_flags (routes : BitVec 30) : alertCondition 0#15 routes = false := by
  simp [alertCondition, flagSet]

/-- The event unit's reset values are exact under any routes (R161, R168). -/
theorem alertExact_of_events_reset (h : s.events = EventUnit.reset) : alertExact s := by
  rw [alertExact_iff, h]
  exact (alertCondition_no_flags _).symm

/-! ### Operations that end by taking an event -/

theorem changeRole_alertExact (new : Role) (s : State) : alertExact (changeRole new s) := raise_alertExact _ _

theorem promote_alertExact (s : State) : alertExact (promote s) := changeRole_alertExact _ _

theorem endCommand_alertExact (state : CmdState) (reason : Reason) (detail : Detail) (s : State) :
    alertExact (endCommand state reason detail s) := raise_alertExact _ _

theorem handoverComplete_alertExact (outcome : Detail) (epoch seq : Half) (s : State) :
    alertExact (handoverComplete outcome epoch seq s) := endCommand_alertExact _ _ _ _

theorem handoverCancel_alertExact (reason : Reason) (s : State) : alertExact (handoverCancel reason s) :=
  endCommand_alertExact _ _ _ _

theorem spillCore_alertExact (s : State) : alertExact (spillCore s) := raise_alertExact _ _

theorem resyncComplete_alertExact (s : State) : alertExact (resyncComplete s) := raise_alertExact _ _

theorem resyncAbandon_alertExact (s : State) : alertExact (resyncAbandon s) := raise_alertExact _ _

theorem loseLink_alertExact (s : State) : alertExact (loseLink s) := raise_alertExact _ _

theorem enterUp_alertExact (s : State) : alertExact (enterUp s) := raise_alertExact _ _

theorem badFrame_alertExact (next : Assembler) (s : State) : alertExact (badFrame next s) := raise_alertExact _ _

theorem characterError_alertExact (stop : Bool) (s : State) : alertExact (characterError stop s) :=
  raise_alertExact _ _

theorem applyFault_alertExact (cause : FaultCause) (seq : Half) (addr : WordAddr) (s : State) :
    alertExact (applyFault cause seq addr s) := raise_alertExact _ _

theorem refuse_alertExact (req : HostReq) (s : State) : alertExact (refuse req s) := by
  rw [alertExact_iff]
  simp [refuse]

theorem doneAtOnce_alertExact (c : Command) (s : State) : alertExact (doneAtOnce c s) := raise_alertExact _ _

theorem refusedAtOnce_alertExact (c : Command) (reason : Reason) (s : State) :
    alertExact (refusedAtOnce c reason s) := raise_alertExact _ _

theorem refusedBusy_alertExact (c : Command) (s : State) : alertExact (refusedBusy c s) := raise_alertExact _ _

theorem reportLoad_alertExact (detail : Detail) (s : State) : alertExact (reportLoad detail s) :=
  alertExact_ite (endCommand_alertExact _ _ _ _) (raise_alertExact _ _)

theorem failLoad_alertExact (state : LoadState) (index : Byte) (detail : Detail) (s : State) :
    alertExact (failLoad state index detail s) := reportLoad_alertExact _ _

theorem commitLoad_alertExact (staging : Settings) (s : State) : alertExact (commitLoad staging s) :=
  reportLoad_alertExact _ _

theorem warmEffects_alertExact (s : State) : alertExact (warmEffects s) := alertExact_of_events_reset rfl

theorem coldStart_alertExact (addr : BitVec 2) (loadEn : Bool) (s : State) : alertExact (coldStart addr loadEn s) :=
  alertExact_of_events_reset rfl

section
variable (h : alertExact s)
include h

/-! ### Host port, replay list and walker -/

theorem failConfirmWait_alertExact : alertExact (failConfirmWait s) := alertExact_ite (raise_alertExact _ _) h

theorem cancelReservation_alertExact : alertExact (cancelReservation s) := by
  rcases cancelReservation_cases s with ⟨_, e⟩ | ⟨_, _, _, _, _, _, e⟩ | ⟨_, e⟩ <;> rw [e]
  · exact h
  · exact raise_alertExact _ _
  · exact h

theorem pauseWalker_alertExact : alertExact (pauseWalker s) := alertExact_ite (alertExact_ite h h) h

theorem askMarker_alertExact (body : RecordBody) : alertExact (askMarker body s) := alertExact_ite h h

theorem walkerGoOn_alertExact : alertExact (walkerGoOn s) := alertExact_ite (alertExact_ite h h) h

theorem resumeWalker_alertExact : alertExact (resumeWalker s) := alertExact_ite (walkerGoOn_alertExact h) h

theorem discard_alertExact (keep : Bool) : alertExact (discard keep s) :=
  alertExact_ite (failConfirmWait_alertExact h) (cancelReservation_alertExact (failConfirmWait_alertExact h))

theorem beginFull_alertExact : alertExact (beginFull s) := by
  have emptied : alertExact (if s.list.records.isEmpty then s else discard true s) :=
    alertExact_ite h (discard_alertExact h true)
  simpa [alertExact_iff, beginFull] using emptied

theorem resyncStart_alertExact : alertExact (resyncStart s) := by
  unfold resyncStart
  refine askMarker_alertExact ?_ _
  dsimp only
  generalize begun : (if resyncScope s = .full then beginFull _ else _) = t
  have begunExact : alertExact t := by
    rw [← begun]
    exact alertExact_ite (beginFull_alertExact (alertExact_ite h h)) (alertExact_ite h h)
  exact begunExact

theorem resyncAfterSpill_alertExact : alertExact (resyncAfterSpill s) := alertExact_ite (resyncStart_alertExact h) h

theorem askAck_alertExact : alertExact (askAck s) := by
  rw [askAck_eq]
  exact h

theorem cancelPromote_alertExact : alertExact (cancelPromote s) := alertExact_ite h h

end

theorem spill_alertExact (s : State) : alertExact (spill s) := resyncAfterSpill_alertExact (spillCore_alertExact s)

section
variable (h : alertExact s)
include h

/-! ### Roles and link states -/

theorem takeHandoverRole_alertExact : alertExact (takeHandoverRole s) := by
  unfold takeHandoverRole
  split
  · exact changeRole_alertExact _ _
  · exact h

theorem handoverOffUp_alertExact : alertExact (handoverOffUp s) := by
  unfold handoverOffUp
  refine alertExact_ite ?_ h
  split
  · exact handoverComplete_alertExact _ _ _ _
  · exact handoverCancel_alertExact _ _

theorem leaveUpCore_alertExact (new : LinkState) : alertExact (leaveUpCore new s) :=
  alertExact_ite (failConfirmWait_alertExact (pauseWalker_alertExact h)) h

theorem leaveUp_alertExact (new : LinkState) : alertExact (leaveUp new s) :=
  alertExact_ite (handoverOffUp_alertExact (takeHandoverRole_alertExact (leaveUpCore_alertExact h new))) h

theorem linkOff_alertExact : alertExact (linkOff s) := alertExact_ite (leaveUp_alertExact h _) h

theorem disableLink_alertExact : alertExact (disableLink s) := takeHandoverRole_alertExact (linkOff_alertExact h)

theorem enableLink_alertExact : alertExact (enableLink s) := h

theorem followLinkControl_alertExact (oldEnable : Bool) (oldRate : LinkRate) :
    alertExact (followLinkControl oldEnable oldRate s) := by
  unfold followLinkControl
  split
  · exact enableLink_alertExact h
  · exact disableLink_alertExact h
  · exact alertExact_ite h (enableLink_alertExact (disableLink_alertExact h))
  · exact h

theorem checkHandshake_alertExact (digest : Half) (role : Role) : alertExact (checkHandshake digest role s) := by
  unfold checkHandshake
  split
  · exact alertExact_ite h (raise_alertExact _ _)
  · exact alertExact_ite h (raise_alertExact _ _)
  · exact enterUp_alertExact _

/-! ### Answers of the partner -/

theorem reportEnd_alertExact (removed : List Rec) : alertExact (reportEnd removed s) :=
  alertExact_ite (resyncComplete_alertExact _) h

theorem reportHandover_alertExact (removed : List Rec) : alertExact (reportHandover removed s) := by
  unfold reportHandover
  split
  · exact alertExact_ite (handoverComplete_alertExact _ _ _ _) h
  · exact h

theorem removeBehind_alertExact (n : Half) : alertExact (removeBehind n s) := by
  unfold removeBehind
  refine reportHandover_alertExact (reportEnd_alertExact ?_ _) _
  split <;> exact h

theorem takeAck_alertExact (n : Half) : alertExact (takeAck n s) :=
  alertExact_ite (alertExact_ite h (alertExact_ite (removeBehind_alertExact h n) (leaveUp_alertExact h _))) h

theorem takeNak_alertExact (n : Half) : alertExact (takeNak n s) :=
  alertExact_ite (alertExact_ite h (alertExact_ite h
    (alertExact_ite (removeBehind_alertExact h n) (leaveUp_alertExact h _)))) h

/-! ### HELLO and PULSE -/

theorem setPartner_alertExact (v : PartnerView) : alertExact (setPartner v s) :=
  alertExact_ite h (pauseWalker_alertExact h)

theorem judgeFall_alertExact (old : PartnerView) (role : Role) (c : Consistency) :
    alertExact (judgeFall old role c s) := alertExact_ite (raise_alertExact _ _) h

theorem completeByHello_alertExact (f : Hello) : alertExact (completeByHello f s) := by
  unfold completeByHello
  split
  · exact alertExact_ite (handoverComplete_alertExact _ _ _ _) h
  · exact h

theorem abandonHeld_alertExact : alertExact (abandonHeld s) := alertExact_ite h h

theorem staleGuard_alertExact (f : Hello) : alertExact (staleGuard f s) :=
  alertExact_ite (abandonHeld_alertExact h) h

theorem helloEffect_alertExact (found : LinkState) (f : Hello) : alertExact (helloEffect found f s) := by
  cases found with
  | off | down => exact h
  | handshake | conflict | mismatch => exact alertExact_ite (checkHandshake_alertExact h _ _) h
  | up => exact leaveUp_alertExact h _

theorem takeHello_alertExact (f : Hello) : alertExact (takeHello f s) :=
  judgeFall_alertExact (helloEffect_alertExact (staleGuard_alertExact
    (setPartner_alertExact (completeByHello_alertExact h f) _) f) _ f) _ _ _

theorem pulseEffect_alertExact (found : LinkState) (p : Pulse) : alertExact (pulseEffect found p s) := by
  unfold pulseEffect
  split
  · exact alertExact_ite (enterUp_alertExact _) h
  · exact alertExact_ite (takeAck_alertExact h _) h
  · exact h

theorem takePulse_alertExact (p : Pulse) : alertExact (takePulse p s) :=
  judgeFall_alertExact (pulseEffect_alertExact (setPartner_alertExact h _) _ p) _ _ _

/-! ### Expiries of the pairing controller -/

theorem retryExpired_alertExact : alertExact (retryExpired s) := alertExact_ite h (loseLink_alertExact _)

theorem promoteExpired_alertExact : alertExact (promoteExpired s) := alertExact_ite (promote_alertExact _) h

/-! ### Host requests -/

theorem askReservation_alertExact (req : HostReq) (counted : Bool) : alertExact (askReservation req counted s) :=
  alertExact_ite h (alertExact_ite h (alertExact_frame (forward_events _ _ _) (forward_cfg _ _ _) (spill_alertExact s)))

theorem acceptMirrored_alertExact (req : HostReq) (counted : Bool) : alertExact (acceptMirrored req counted s) := by
  unfold acceptMirrored
  split
  case h_3 | h_4 => exact askReservation_alertExact h req counted
  all_goals exact h

theorem acceptRequest_alertExact (req : HostReq) (counted : Bool) : alertExact (acceptRequest req counted s) := by
  unfold acceptRequest
  split
  · exact h
  · exact h
  · exact alertExact_ite (refuse_alertExact req s) h
  · exact alertExact_ite (acceptMirrored_alertExact h req counted) h

theorem reclassify_alertExact (req : HostReq) (counted : Bool) : alertExact (reclassify req counted s) :=
  acceptRequest_alertExact (s := { s with list := { s.list with holdTimer := none } }) h req counted

/-! ### The end of a step -/

theorem settleHold_alertExact : alertExact (settleHold s) := by
  unfold settleHold
  split
  · exact alertExact_ite (alertExact_ite h (reclassify_alertExact (spill_alertExact s) _ _))
      (reclassify_alertExact h _ _)
  · exact alertExact_ite h (reclassify_alertExact h _ _)
  · exact h

/-- Of the frames that may start only an ACK or NAK can raise an event: a pending handover is taken there (R93). -/
theorem schedule_alertExact : alertExact (schedule s) := by
  rcases schedule_cases s with ⟨_, e⟩ | ⟨_, _, e⟩ | ⟨_, _, _, e⟩ | ⟨_, _, _, _, _, e⟩ | ⟨_, _, _, _, _, e⟩ | ⟨_, _, e⟩
    <;> rw [e]
  case inr.inr.inl => exact takeHandoverRole_alertExact h
  all_goals exact h

theorem finish_alertExact : alertExact (finish s) := schedule_alertExact (settleHold_alertExact h)

/-- The end of a warm reset begins a load anew or enters START_ROLE with no event (R186, R195). -/
theorem warmEnd_alertExact : alertExact (warmEnd s) := by
  have restarted : alertExact (restartLoadOrRole { s with phase := .running }) := alertExact_ite h h
  exact schedule_alertExact (alertExact_ite (enableLink_alertExact restarted) restarted)

/-! ### Memory's answer to a host request -/

theorem answerUnconfirmed_alertExact (cls : HostClass) (condemned : Bool) :
    alertExact (answerUnconfirmed cls condemned s) :=
  alertExact_ite (alertExact_ite h (raise_alertExact _ _)) h

theorem openOrClose_alertExact (closes : Bool) : alertExact (openOrClose closes s) := alertExact_ite h h

theorem captureConfirm_alertExact (req : HostReq) (cls : HostClass) (region : BitVec 4) (condemned : Bool) :
    alertExact (captureConfirm req cls region condemned s) := by
  unfold captureConfirm
  refine alertExact_ite h ?_
  apply answerUnconfirmed_alertExact
  exact h

theorem joinWrite_alertExact (req : HostReq) (region : BitVec 4) : alertExact (joinWrite req region s) := by
  unfold joinWrite
  apply openOrClose_alertExact
  exact h

theorem openWrite_alertExact (req : HostReq) (region : BitVec 4) : alertExact (openWrite req region s) := by
  unfold openWrite
  apply openOrClose_alertExact
  exact h

omit h in
theorem captureBySpill_alertExact (s : State) (req : HostReq) (cls : HostClass) (condemned : Bool) :
    alertExact (captureBySpill req cls condemned s) := by
  have marked : alertExact (markWrite req (spillCore s)) :=
    alertExact_frame (markWrite_events _ _) (markWrite_cfg _ _) (spillCore_alertExact s)
  exact answerUnconfirmed_alertExact (resyncAfterSpill_alertExact marked) cls condemned

theorem capture_alertExact (req : HostReq) (cls : HostClass) (condemned : Bool) :
    alertExact (capture req cls condemned s) :=
  alertExact_ite (alertExact_ite (captureConfirm_alertExact h _ _ _ _) (captureBySpill_alertExact s _ _ _))
    (alertExact_ite (joinWrite_alertExact h _ _)
      (alertExact_ite (openWrite_alertExact h _ _) (captureBySpill_alertExact s _ _ _)))

theorem captureAnswer_alertExact (req : HostReq) (cls : HostClass) (condemned : Bool) :
    alertExact (captureAnswer req cls condemned s) := by
  unfold captureAnswer
  have dropped : alertExact (dropReservation s) := h
  have marked : alertExact (markWrite req (dropReservation s)) := h
  refine alertExact_ite ?_ (answerUnconfirmed_alertExact dropped _ _)
  split
  · exact answerUnconfirmed_alertExact dropped _ _
  · exact answerUnconfirmed_alertExact marked _ _
  · exact alertExact_ite h (capture_alertExact h _ _ _)
  · exact capture_alertExact h _ _ _
  · exact capture_alertExact h _ _ _

theorem hostAnswer_alertExact (answer : MemAnswer) (req : HostReq) (cls : HostClass) (condemned : Bool) :
    alertExact (hostAnswer answer req cls condemned s) := by
  unfold hostAnswer
  refine alertExact_ite ?_ h
  cases answer with
  | ok data => exact captureAnswer_alertExact h _ _ _
  | fault => exact h

/-! ### The receiver -/

theorem placeFrame_alertExact (f : Frame) : alertExact (placeFrame f s) := alertExact_ite h h

theorem assembleInFrame_alertExact (ty : FrameType) (data : List Byte) (crc : Half) (sym : RxSymbol) :
    alertExact (assembleInFrame ty data crc sym s) := by
  cases sym with
  | data b => exact alertExact_ite h (badFrame_alertExact _ _)
  | eof =>
    simp only [assembleInFrame, judgeFrame]
    split
    · exact placeFrame_alertExact h _
    · exact badFrame_alertExact _ _
  | sof | error => exact badFrame_alertExact _ _
  | abort => exact h

theorem assemble_alertExact (sym : RxSymbol) : alertExact (assemble sym s) := by
  unfold assemble
  split
  case h_1 => exact assembleInFrame_alertExact h _ _ _ _
  all_goals exact h

theorem takeCharacter_alertExact (bits : BitVec 12) : alertExact (takeCharacter bits s) := by
  unfold takeCharacter
  split
  · exact assemble_alertExact (characterError_alertExact _ _) _
  · exact assemble_alertExact h _

/-! ### The apply engine -/

theorem recordApplied_alertExact : alertExact (recordApplied s) := askAck_alertExact h

theorem issueWord_alertExact (r : HeldRecord) : alertExact (issueWord r s) := by
  unfold issueWord
  split
  · exact h
  · exact recordApplied_alertExact h

theorem applyInTurn_alertExact (seq : Half) (body : RecordBody) : alertExact (applyInTurn seq body s) := by
  have applied : alertExact (recordApplied s) := recordApplied_alertExact h
  cases body with
  | data => exact alertExact_ite (issueWord_alertExact h _) (applyFault_alertExact _ _ _ _)
  | beginMark | endMark => exact recordApplied_alertExact h
  | handoverMark => exact alertExact_ite applied (takeHandoverRole_alertExact applied)

theorem judgeSequence_alertExact (seq : Half) (body : RecordBody) : alertExact (judgeSequence seq body s) :=
  alertExact_ite (applyInTurn_alertExact h seq body) (alertExact_ite (askAck_alertExact h) (alertExact_ite h h))

theorem judgeRecord_alertExact (seq : Half) (body : RecordBody) : alertExact (judgeRecord seq body s) := by
  unfold judgeRecord
  split
  · exact askAck_alertExact h
  · exact alertExact_ite (judgeSequence_alertExact h seq _) (askAck_alertExact h)
  · exact h
  · exact judgeSequence_alertExact h seq _

theorem applyAnswer_alertExact (answer : MemAnswer) (r : HeldRecord) : alertExact (applyAnswer answer r s) := by
  cases answer with
  | ok data => exact issueWord_alertExact h _
  | fault => exact applyFault_alertExact _ _ _ _

/-! ### The walker and the auto-resync reflex -/

theorem chunkClosed_alertExact : alertExact (chunkClosed s) := alertExact_ite h (walkerGoOn_alertExact h)

theorem walkerRead_alertExact (data : Word) : alertExact (walkerRead data s) :=
  alertExact_ite h (chunkClosed_alertExact h)

theorem finishWalk_alertExact : alertExact (finishWalk s) :=
  askMarker_alertExact (s := { s with walker := { s.walker with run := .finished } }) h _

theorem setAutoResync_alertExact (a : AutoResync) : alertExact (setAutoResync a s) := h

theorem autoResync_alertExact : alertExact (autoResync s) := by
  have noEffect : alertExact (setAutoResync .noEffect s) := setAutoResync_alertExact h _
  unfold autoResync
  split
  · exact setAutoResync_alertExact (resyncStart_alertExact h) _
  · exact setAutoResync_alertExact (resyncStart_alertExact h) _
  · exact alertExact_ite noEffect
      (setAutoResync_alertExact (resyncStart_alertExact (handoverCancel_alertExact _ _)) _)
  · exact noEffect
  · exact noEffect

end

end Sys2Proof.Machine
end

section
/-! PROOFS. A configuration item other than EVENT_ROUTES leaves the routes alone (R160, R174). -/

namespace Sys2Proof.Machine

variable {cfg : Settings} {routes : BitVec 30} {judged : Except Access Settings}

/-- A judgement that accepts a value accepts it into a configuration with these routes. -/
def KeepsRoutes (routes : BitVec 30) (judged : Except Access Settings) : Prop :=
  ∀ accepted, judged = .ok accepted → accepted.routes = routes

theorem KeepsRoutes.ok (h : cfg.routes = routes) : KeepsRoutes routes (.ok cfg) := by
  rintro _ ⟨⟩
  exact h

theorem KeepsRoutes.error (a : Access) : KeepsRoutes routes (.error a) := by
  rintro _ ⟨⟩

theorem KeepsRoutes.ite {c : Prop} [Decidable c] {other : Except Access Settings}
    (yes : KeepsRoutes routes judged) (no : KeepsRoutes routes other) :
    KeepsRoutes routes (if c then judged else other) := by
  split
  · exact yes
  · exact no

theorem ranged_keepsRoutes (lo hi : Nat) (v : Word) (h : cfg.routes = routes) :
    KeepsRoutes routes (ranged lo hi v cfg) := .ite (.ok h) (.error _)

theorem inRoleNone_keepsRoutes (role : Role) (h : KeepsRoutes routes judged) :
    KeepsRoutes routes (inRoleNone role judged) := .ite h (.error _)

theorem judgeLinkControl_keepsRoutes (cfg : Settings) (v : Word) :
    KeepsRoutes cfg.routes (judgeLinkControl cfg v) := by
  refine .ite ?_ (.error _)
  split
  · exact .ite (.error _) (.ok rfl)
  · exact .error _

theorem judgeStartRole_keepsRoutes (cfg : Settings) (v : Word) : KeepsRoutes cfg.routes (judgeStartRole cfg v) := by
  unfold judgeStartRole
  split
  · exact .ok rfl
  · exact .error _

theorem judgeMode_keepsRoutes (cfg : Settings) (n : BitVec 4) (v : Word) :
    KeepsRoutes cfg.routes (judgeMode cfg n v) := by
  refine .ite ?_ (.error _)
  split
  · exact .ok rfl
  · exact .error _

theorem judgeRegionItem_keepsRoutes (cfg : Settings) (item : Byte) (v : Word) :
    KeepsRoutes cfg.routes (judgeRegionItem cfg item v) :=
  .ite (judgeMode_keepsRoutes _ _ _) (.ite (.ok rfl) (.error _))

theorem judgeSetting_keepsRoutes (role : Role) (cfg : Settings) (item : Byte) (v : Word) :
    KeepsRoutes cfg.routes (judgeSetting role cfg item v) := by
  unfold judgeSetting
  split
  case h_3 => exact inRoleNone_keepsRoutes _ (ranged_keepsRoutes _ _ _ rfl)
  case h_11 => exact judgeStartRole_keepsRoutes _ _
  case h_14 => exact .error _
  all_goals exact ranged_keepsRoutes _ _ _ rfl

/-- Only EVENT_ROUTES gives the routes a value (R160). -/
theorem judgeConfig_keepsRoutes (role : Role) (cfg : Settings) {item : Byte} (v : Word) (other : item ≠ 0x32#8) :
    KeepsRoutes cfg.routes (judgeConfig role cfg item v) := by
  unfold judgeConfig
  rw [if_neg other]
  exact .ite (judgeLinkControl_keepsRoutes _ _)
    (.ite (inRoleNone_keepsRoutes _ (judgeRegionItem_keepsRoutes _ _ _)) (judgeSetting_keepsRoutes _ _ _ _))

/-- No region item has the number of EVENT_ROUTES (11.4). -/
theorem spanItem_ne_eventRoutes (n : BitVec 4) : spanItem n ≠ 0x32#8 := by
  unfold spanItem
  bv_omega

theorem modeItem_ne_eventRoutes (n : BitVec 4) : modeItem n ≠ 0x32#8 := by
  unfold modeItem
  bv_omega

end Sys2Proof.Machine
end

section
/-! PROOFS. Every command leaves the ALERT line exact (R161). -/

namespace Sys2Proof.Machine

open Sys2Proof.Safety (alertExact)

section
variable {s : State} (h : alertExact s)
include h

/-! ### Writes on the management port -/

theorem writeConfig_alertExact {item : Byte} (v : Word) (other : item ≠ 0x32#8) :
    alertExact (writeConfig item v s) := by
  have kept := judgeConfig_keepsRoutes s.pair.role s.cfg v other
  unfold writeConfig
  split
  case h_1 cfg accepted =>
    rw [alertExact_iff] at h ⊢
    simpa [kept cfg accepted] using h
  case h_2 => exact h

theorem clearFlags_alertExact (v : Word) : alertExact (clearFlags v s) := alertExact_ite (updateAlert_alertExact _) h

theorem writeLinkControl_alertExact (v : Word) : alertExact (writeLinkControl v s) :=
  finish_alertExact (followLinkControl_alertExact (writeConfig_alertExact h v (by decide)) _ _)

theorem reloadEffect_alertExact : alertExact (reloadEffect s) := alertExact_ite h (refusedAtOnce_alertExact _ _ _)

/-- What a command of the slot makes of the line (R177). -/
theorem commandEffect_alertExact (c : Command) : alertExact (commandEffect c s) := by
  cases c with
  | setActive =>
    simp only [commandEffect, setActiveEffect]
    split
    · exact finish_alertExact (doneAtOnce_alertExact _ _)
    · exact alertExact_ite (refusedAtOnce_alertExact _ _ _) (finish_alertExact (doneAtOnce_alertExact _ _))
    · exact doneAtOnce_alertExact _ _
  | setStandby | setNone =>
    exact alertExact_ite (doneAtOnce_alertExact _ _) (finish_alertExact (doneAtOnce_alertExact _ _))
  | handover =>
    simp only [commandEffect, handoverEffect]
    split
    · exact refusedAtOnce_alertExact _ _ _
    · exact finish_alertExact h
  | resync =>
    simp only [commandEffect, resyncEffect]
    split
    · exact refusedAtOnce_alertExact _ _ _
    · exact finish_alertExact (doneAtOnce_alertExact _ _)
  | restart => exact warmEnd_alertExact (warmEffects_alertExact _)
  | reload => exact reloadEffect_alertExact h
  | clearCounters => exact doneAtOnce_alertExact _ _

theorem takeCommand_alertExact (c : Command) : alertExact (takeCommand c (commandEffect c) s) := by
  have taken : alertExact (if isRoleCommand c then cancelPromote (setAccess .ok s) else setAccess .ok s) :=
    alertExact_ite (cancelPromote_alertExact h) h
  exact alertExact_ite (refusedBusy_alertExact _ _) (commandEffect_alertExact taken c)

theorem writeCommand_alertExact (v : Word) : alertExact (writeCommand v s) := by
  unfold writeCommand
  split
  · exact takeCommand_alertExact h _
  · exact h

theorem writeOwn_alertExact (item : Byte) (v : Word) : alertExact (writeOwn item v s) := by
  unfold writeOwn
  split
  · exact clearFlags_alertExact h v
  · exact writeCommand_alertExact h v
  · by_cases routes : item = 0x32#8
    · rw [if_pos routes]
      exact updateAlert_alertExact _
    · rw [if_neg routes]
      exact alertExact_ite (writeLinkControl_alertExact h v) (writeConfig_alertExact h v routes)
  · exact h

theorem transaction_alertExact (target : BitVec 7) (bytes : Nat) {taken : State → State}
    (keeps : ∀ {t : State}, alertExact t → alertExact (taken t)) : alertExact (transaction target bytes taken s) :=
  alertExact_ite (keeps h) h

theorem writeTransaction_alertExact (target : BitVec 7) (item : Byte) {own : State → State}
    (keeps : ∀ {t : State}, alertExact t → alertExact (own t)) :
    alertExact (writeTransaction target item own s) := by
  refine transaction_alertExact h target _ fun {t} ht => ?_
  dsimp only
  split
  · exact ht
  · exact alertExact_ite ht (alertExact_ite ht (keeps ht))

end

/-! ### What a command answers -/

/-- A command that completes leaves the line exact. -/
def AnswersAlertExact (outcome : Host.Outcome State Fault Refusal) : Prop :=
  ∀ t : State, outcome = .next t → alertExact t

theorem AnswersAlertExact.next {u : State} (h : alertExact u) : AnswersAlertExact (.next u) := by
  rintro t ⟨⟩
  exact h

section
variable {s : State} (h : alertExact s)
include h

/-! ### Resets and loads -/

theorem answersAlertExact_coldResetEnd (addr : BitVec 2) (loadEn : Bool) :
    AnswersAlertExact (execColdResetEnd addr loadEn s) :=
  .next (alertExact_ite (alertExact_ite (coldStart_alertExact _ _ _) (raise_alertExact _ _)) h)

theorem answersAlertExact_warmReset : AnswersAlertExact (execWarmReset s) :=
  .next (alertExact_ite h (alertExact_ite h (warmEffects_alertExact s)))

theorem answersAlertExact_warmResetEnd : AnswersAlertExact (execWarmResetEnd s) := by
  refine .next (alertExact_ite ?_ h)
  split
  · exact h
  · exact warmEnd_alertExact h
  · exact alertExact_ite h h

theorem answersAlertExact_loadCommit (image : List Bool) : AnswersAlertExact (execLoadCommit image s) := by
  refine .next (alertExact_ite ?_ h)
  split
  · exact finish_alertExact (commitLoad_alertExact _ _)
  · exact h

theorem answersAlertExact_loadFail (image : List Bool) : AnswersAlertExact (execLoadFail image s) := by
  refine .next (alertExact_ite ?_ h)
  split
  · exact failLoad_alertExact _ _ _ _
  · exact failLoad_alertExact _ _ _ _
  · exact h

/-! ### Host port and memory port -/

theorem answersAlertExact_hostMemoryAnswer (answer : MemAnswer) :
    AnswersAlertExact (execHostMemoryAnswer answer s) := by
  refine .next ?_
  split
  · exact finish_alertExact (hostAnswer_alertExact (s := freeBus s) h _ _ _ _)
  · exact h

theorem answersAlertExact_holdReserved : AnswersAlertExact (execHoldReserved s) := by
  refine .next ?_
  split
  · exact alertExact_ite h h
  · exact h

theorem answersAlertExact_holdTimerExpiry : AnswersAlertExact (execHoldTimerExpiry s) := by
  refine .next ?_
  split
  · exact alertExact_ite (finish_alertExact (reclassify_alertExact (spill_alertExact _) _ _)) h
  · exact h

/-! ### Frames of the receive buffer -/

theorem answersAlertExact_helloReceived : AnswersAlertExact (execHelloReceived s) := by
  refine .next ?_
  split
  · exact finish_alertExact (takeHello_alertExact (s := dropOldest s) h _)
  · exact h

theorem answersAlertExact_pulseReceived : AnswersAlertExact (execPulseReceived s) := by
  refine .next ?_
  split
  · exact finish_alertExact (takePulse_alertExact (s := dropOldest s) h _)
  · exact h

theorem answersAlertExact_ackReceived : AnswersAlertExact (execAckReceived s) := by
  refine .next ?_
  split
  · exact alertExact_ite (finish_alertExact (takeAck_alertExact (s := dropOldest s) h _)) h
  · exact h

theorem answersAlertExact_nakReceived : AnswersAlertExact (execNakReceived s) := by
  refine .next ?_
  split
  · exact alertExact_ite (finish_alertExact (takeNak_alertExact (s := dropOldest s) h _)) h
  · exact h

theorem answersAlertExact_frameDiscarded : AnswersAlertExact (execFrameDiscarded s) := by
  refine .next ?_
  split
  · exact alertExact_ite h h
  · exact h

theorem answersAlertExact_recordTaken : AnswersAlertExact (execRecordTaken s) := by
  refine .next ?_
  split
  · exact alertExact_ite (finish_alertExact (judgeRecord_alertExact (s := dropOldest s) h _ _)) h
  · exact h

/-! ### The apply engine, the link and the walker -/

theorem answersAlertExact_applyWriteAnswer (answer : MemAnswer) :
    AnswersAlertExact (execApplyWriteAnswer answer s) := by
  refine .next ?_
  split
  · split
    · exact finish_alertExact (applyAnswer_alertExact (s := freeBus s) h _ _)
    · exact alertExact_frame (discardAnswer_events s) (discardAnswer_cfg s) h
  · exact h

theorem answersAlertExact_lossTimerExpiry : AnswersAlertExact (execLossTimerExpiry s) := by
  refine .next (alertExact_ite ?_ h)
  split
  case h_1 => exact finish_alertExact (loseLink_alertExact _)
  case h_5 | h_6 => exact h
  all_goals exact finish_alertExact h

theorem answersAlertExact_markerAppend : AnswersAlertExact (execMarkerAppend s) := by
  refine .next ?_
  split
  · exact alertExact_ite (finish_alertExact h) h
  · exact h

theorem answersAlertExact_walkerTakeBlock : AnswersAlertExact (execWalkerTakeBlock s) := by
  refine .next (alertExact_ite ?_ h)
  split
  · exact walkerGoOn_alertExact h
  · exact finish_alertExact (finishWalk_alertExact h)

theorem answersAlertExact_walkerReadAnswer (answer : MemAnswer) :
    AnswersAlertExact (execWalkerReadAnswer answer s) := by
  refine .next ?_
  split
  · refine alertExact_ite (alertExact_frame (discardAnswer_events s) (discardAnswer_cfg s) h) ?_
    cases answer with
    | ok data => exact finish_alertExact (walkerRead_alertExact (s := freeBus s) h _)
    | fault => exact finish_alertExact (resyncAbandon_alertExact _)
  · exact h

theorem answersAlertExact_command (target : BitVec 7) (c : Command) :
    AnswersAlertExact (.next (commandTransaction target c (commandEffect c) s)) :=
  .next (writeTransaction_alertExact h _ _ fun ht => takeCommand_alertExact ht c)

/-! ### All commands -/

/-- Whatever a command does to flags and routes, the line it leaves is exact (R161). -/
theorem exec_alertExact (c : Instr) : AnswersAlertExact (exec c s) := by
  cases c with
  | coldReset => exact .next (alertExact_of_events_reset rfl)
  | coldResetEnd addr loadEn => exact answersAlertExact_coldResetEnd h addr loadEn
  | warmReset => exact answersAlertExact_warmReset h
  | warmResetEnd => exact answersAlertExact_warmResetEnd h
  | loadCommit image => exact answersAlertExact_loadCommit h image
  | loadFail image => exact answersAlertExact_loadFail h image
  | hostRequest =>
    exact .next (alertExact_ite (finish_alertExact (acceptRequest_alertExact
      (s := { s with host := { s.host with response := none } }) h _ _)) h)
  | memoryGrant => exact .next (alertExact_ite h h)
  | hostMemoryAnswer answer => exact answersAlertExact_hostMemoryAnswer h answer
  | coalesceTimerExpiry => exact .next (alertExact_ite (finish_alertExact h) h)
  | holdReserved => exact answersAlertExact_holdReserved h
  | holdTimerExpiry => exact answersAlertExact_holdTimerExpiry h
  | confirmTimerExpiry => exact .next (alertExact_ite (failConfirmWait_alertExact h) h)
  | linkCharacter bits => exact .next (alertExact_ite (takeCharacter_alertExact h bits) h)
  | helloReceived => exact answersAlertExact_helloReceived h
  | pulseReceived => exact answersAlertExact_pulseReceived h
  | ackReceived => exact answersAlertExact_ackReceived h
  | nakReceived => exact answersAlertExact_nakReceived h
  | frameDiscarded => exact answersAlertExact_frameDiscarded h
  | recordTaken => exact answersAlertExact_recordTaken h
  | applyWriteAnswer answer => exact answersAlertExact_applyWriteAnswer h answer
  | frameEnd => exact .next (alertExact_ite h (finish_alertExact h))
  | pulseTimerExpiry | helloIntervalExpiry => exact .next (alertExact_ite (finish_alertExact h) h)
  | retryTimerExpiry => exact .next (alertExact_ite (finish_alertExact (retryExpired_alertExact h)) h)
  | lossTimerExpiry => exact answersAlertExact_lossTimerExpiry h
  | promoteTimerExpiry => exact .next (alertExact_ite (finish_alertExact (promoteExpired_alertExact h)) h)
  | drainTimerExpiry => exact .next (alertExact_ite (finish_alertExact (handoverCancel_alertExact _ _)) h)
  | handoverMarkerAppend => exact .next (alertExact_ite (finish_alertExact h) h)
  | markerAppend => exact answersAlertExact_markerAppend h
  | walkerTakeBlock => exact answersAlertExact_walkerTakeBlock h
  | walkerOpenSync => exact .next (alertExact_ite (finish_alertExact h) h)
  | walkerReadAnswer answer => exact answersAlertExact_walkerReadAnswer h answer
  | autoResyncTaken =>
    exact .next (alertExact_ite (finish_alertExact (autoResync_alertExact
      (s := { s with walker := { s.walker with autoRequest := false } }) h)) h)
  | setActive target => exact answersAlertExact_command h target .setActive
  | setStandby target => exact answersAlertExact_command h target .setStandby
  | setNone target => exact answersAlertExact_command h target .setNone
  | handover target => exact answersAlertExact_command h target .handover
  | resync target => exact answersAlertExact_command h target .resync
  | restart target => exact answersAlertExact_command h target .restart
  | reload target => exact answersAlertExact_command h target .reload
  | clearCounters target => exact answersAlertExact_command h target .clearCounters
  | eventClear => exact .next (writeTransaction_alertExact h _ _ fun ht => clearFlags_alertExact ht _)
  | eventRoutes => exact .next (writeTransaction_alertExact h _ _ fun _ => updateAlert_alertExact _)
  | linkControl => exact .next (writeTransaction_alertExact h _ _ fun ht => writeLinkControl_alertExact ht _)
  | regionSpan _ n =>
    exact .next (writeTransaction_alertExact h _ _ fun ht =>
      writeConfig_alertExact ht _ (spanItem_ne_eventRoutes n))
  | regionMode _ n =>
    exact .next (writeTransaction_alertExact h _ _ fun ht =>
      writeConfig_alertExact ht _ (modeItem_ne_eventRoutes n))
  | itemWrite => exact .next (writeTransaction_alertExact h _ _ fun ht => writeOwn_alertExact ht _ _)
  | itemSelect | shortWrite | itemRead => exact .next (transaction_alertExact h _ _ id)
  | receiverResumesHunting => exact .next (alertExact_ite h h)

end

/-! ### The obligation -/

/-- Settles O57: an event taken or the line brought up to date makes the line exact, and nothing else touches the
flags, the line or the routes. -/
theorem alertExactKept : Obligations.AlertExactKept := fun c _ t h e => exec_alertExact h c t e

end Sys2Proof.Machine
end

section
/-! PROOFS. EVENT_CLEAR clears the named flags in one step (R158, R170, R173). -/

namespace Sys2Proof.Machine

variable {s : State} {v : Word} {target : BitVec 7} {d : DataBytes}

/-- A value has ones only in the low positions when it is below their power of two (R173). -/
theorem onlyIn_low_iff {n : Nat} (v : Word) : onlyIn (BitVec.ofNat 32 (2 ^ n - 1)) v = true ↔ v.toNat < 2 ^ n := by
  have bit (i : Nat) (hi : i < 32) :
      (v &&& ~~~BitVec.ofNat 32 (2 ^ n - 1)).getLsbD i = (v.getLsbD i && !decide (i < n)) := by
    rw [BitVec.getLsbD_and, BitVec.getLsbD_not, BitVec.getLsbD_ofNat, Nat.testBit_two_pow_sub_one]
    simp [hi]
  rw [onlyIn, beq_iff_eq]
  refine ⟨fun none => Nat.lt_pow_two_of_testBit _ fun i hi => ?_, fun small => BitVec.eq_of_getLsbD_eq fun i hi => ?_⟩
  · rcases Nat.lt_or_ge i 32 with inWord | beyond
    · have cleared := bit i inWord
      rw [none] at cleared
      simpa [Nat.not_lt.mpr hi, BitVec.testBit_toNat] using cleared.symm
    · rw [BitVec.testBit_toNat]
      exact BitVec.getLsbD_of_ge _ _ beyond
  · rw [bit i hi, BitVec.getLsbD_zero]
    rcases Nat.lt_or_ge i n with low | high
    · simp [low]
    · have off : v.getLsbD i = false := Nat.testBit_lt_two_pow (small.trans_le (Nat.pow_le_pow_right (by decide) high))
      simp [off]

/-- The fifteen positions of EVENT_CLEAR hold the values below 2^15 (R158). -/
theorem onlyIn_eventPositions_iff : onlyIn 0x7FFF#32 v = true ↔ v.toNat < 2 ^ 15 := onlyIn_low_iff (n := 15) v

/-- The flags left are those that were set and are not named (R158). -/
theorem cleared_flags_eq {flags left : BitVec 15}
    (named : ∀ i < 15, left.getLsbD i = (flags.getLsbD i && !v.getLsbD i)) :
    flags &&& ~~~(v.extractLsb' 0 15) = left := by
  refine BitVec.eq_of_getLsbD_eq fun i hi => ?_
  rw [BitVec.getLsbD_and, BitVec.getLsbD_not, BitVec.getLsbD_extractLsb', named i hi]
  simp [hi]

/-- A value within the fifteen positions clears the flags it names; the ALERT line follows (R158, R161). -/
theorem clearFlags_of_valid (valid : v.toNat < 2 ^ 15) {left : BitVec 15}
    (named : ∀ i < 15, left.getLsbD i = (s.events.flags.getLsbD i && !v.getLsbD i)) :
    clearFlags v s = { s with
      events := { s.events with flags := left, alert := alertCondition left s.cfg.routes }
      mgmt := { s.mgmt with access := .ok } } := by
  rw [clearFlags, if_pos (onlyIn_eventPositions_iff.mpr valid), cleared_flags_eq named]
  rfl

/-- A value with a 1 beyond the fifteen positions clears no flag (R158, R173). -/
theorem clearFlags_of_invalid (invalid : 2 ^ 15 ≤ v.toNat) : clearFlags v s = setAccess .badValue s :=
  if_neg (mt onlyIn_eventPositions_iff.mp invalid.not_gt)

/-- While a load runs a write of any writable item is LOADING (R173). -/
theorem writeTransaction_loading {item : Byte} {kind : ItemKind} (own : State → State)
    (ha : acknowledges target s = true) (hk : itemKind item = some kind) (hl : s.loader.state = .loading) :
    writeTransaction target item own s =
      { s with mgmt := { s.mgmt with acked := 6, selected := item, access := .loading } } := by
  simp [writeTransaction, transaction, writeLength, ha, hk, hl, selectItem, setAccess]

theorem itemKind_eventClear : itemKind 0x31#8 = some .eventClear := rfl

/-- An EVENT_CLEAR that no load refuses is judged by its value (R158, R173). -/
theorem exec_eventClear_of_ready (ha : acknowledges target s = true) (ready : s.loader.state ≠ .loading) :
    exec (.eventClear target d) s =
      .next (clearFlags (valueOf d) { s with mgmt := { s.mgmt with acked := 6, selected := 0x31#8 } }) :=
  congrArg _ (writeTransaction_own s _ ha itemKind_eventClear (by decide) ready)

/-- Settles O51: the three answers of an EVENT_CLEAR, and the 0 that its item reads. -/
theorem eventsClearedTogether : Obligations.EventsClearedTogether := by
  intro target d s ha v told
  refine ⟨fun loading => ?loading,
    fun ready => ⟨fun valid flags left => ?valid, fun invalid => ?invalid⟩, fun u => ?read⟩
  case loading => exact congrArg _ (writeTransaction_loading _ ha itemKind_eventClear loading)
  case valid => exact (exec_eventClear_of_ready ha ready).trans (congrArg _ (clearFlags_of_valid valid left))
  case invalid => exact (exec_eventClear_of_ready ha ready).trans (congrArg _ (clearFlags_of_invalid invalid))
  case read => rfl

end Sys2Proof.Machine
end

section
/-! PROOFS. CLEAR_COUNTERS clears the five counters in one step (R180), and how a counter counts (R47, R71). -/

namespace Sys2Proof.Machine

variable {s : State} {target : BitVec 7}

/-! ### A counter that stops at 65535 -/

@[simp] theorem countUp_max : countUp 65535#16 = 65535#16 := if_pos rfl

theorem countUp_of_ne_max {c : Half} (below : c ≠ 65535#16) : countUp c = c + 1#16 :=
  if_neg (mt eq_of_beq below)

/-! ### The slot -/

theorem itemKind_command : itemKind 0x50#8 = some .command := rfl

/-- A write of COMMAND that no load refuses reaches the slot (R173, R177). -/
theorem commandTransaction_of_ready (c : Command) (own : State → State) (ha : acknowledges target s = true)
    (ready : s.loader.state ≠ .loading) :
    commandTransaction target c own s =
      takeCommand c own { s with mgmt := { s.mgmt with acked := 6, selected := 0x50#8 } } :=
  writeTransaction_own s _ ha itemKind_command (by decide) ready

/-- A command that finds another IN_PROGRESS is refused with BUSY, whatever its own rule; a role command has stopped
the promote timer even so (R89, R177). -/
theorem takeCommand_busy (c : Command) (own : State → State) (busy : s.mgmt.result.state = .inProgress) :
    takeCommand c own s =
      refusedBusy c (if isRoleCommand c then cancelPromote (setAccess .ok s) else setAccess .ok s) := by
  refine if_pos ?_
  split <;> simp [cancelPromote_eq, busy]

/-- Settles O56: a free slot runs the command's own rule, a busy one refuses it, and a counter below 65535 counts. -/
theorem countersClearedTogether : Obligations.CountersClearedTogether := by
  refine ⟨fun target s ha ready => ⟨fun free => ?done, fun busy => ?refused⟩,
    ?fromZero, countUp_max, fun c => ?counts⟩
  case done =>
    exact congrArg _ ((commandTransaction_of_ready .clearCounters _ ha ready).trans (takeCommand_own _ _ _ free))
  case refused =>
    exact congrArg _ ((commandTransaction_of_ready .clearCounters _ ha ready).trans (takeCommand_busy _ _ busy))
  case fromZero => exact countUp_of_ne_max (by decide)
  case counts => exact countUp_of_ne_max

end Sys2Proof.Machine
end

section
/-! PROOFS. The statements about resets, loads, the host path, the mirror link, pairing, the walker and the management
port, and the joint invariant.

The declarations of this section are elaborated one after another: in parallel their threads outgrow the memory that
the check allows. -/

set_option Elab.async false

section
/-! PROOFS. What the operations of the host port, the list and the walker leave of the fields that they do not own. -/

namespace Sys2Proof.Machine

variable (s : State)

/-! ### Events -/

/-- Only LINK_LOST starts the auto-promote reflex (R163). -/
@[simp] theorem raise_autoPromote {e : Event} (h : e ≠ .linkLost) :
    (raise e s).events.autoPromote = s.events.autoPromote := by
  rcases raise_cases e s with e' | ⟨h', _, _⟩ | ⟨_, e'⟩
  · simp [e']
  · exact absurd h' h
  · simp [e']

/-- Only PARTNER_INCONSISTENT starts the auto-resync reflex (R163). -/
@[simp] theorem raise_autoResync {e : Event} (h : e ≠ .partnerInconsistent) :
    (raise e s).events.autoResync = s.events.autoResync := by
  rcases raise_cases e s with e' | ⟨_, _, e'⟩ | ⟨h', _⟩
  · simp [e']
  · simp [e']
  · exact absurd h' h

/-! ### Confirm wait and reservation -/

@[simp] theorem failConfirmWait_stream : (failConfirmWait s).stream = s.stream := by
  rcases failConfirmWait_cases s with ⟨_, e⟩ | ⟨_, e⟩ <;> simp [e]

@[simp] theorem failConfirmWait_dirty : (failConfirmWait s).dirty = s.dirty := by
  rcases failConfirmWait_cases s with ⟨_, e⟩ | ⟨_, e⟩ <;> simp [e]

@[simp] theorem failConfirmWait_walker : (failConfirmWait s).walker = s.walker := by
  rcases failConfirmWait_cases s with ⟨_, e⟩ | ⟨_, e⟩ <;> simp [e]

@[simp] theorem failConfirmWait_autoPromote : (failConfirmWait s).events.autoPromote = s.events.autoPromote := by
  rcases failConfirmWait_cases s with ⟨_, e⟩ | ⟨_, e⟩ <;> simp [e]

@[simp] theorem failConfirmWait_autoResync : (failConfirmWait s).events.autoResync = s.events.autoResync := by
  rcases failConfirmWait_cases s with ⟨_, e⟩ | ⟨_, e⟩ <;> simp [e]

/-- The end of a confirm wait leaves the records without a waiter, and the rest of the list alone (R148). -/
theorem failConfirmWait_list : (failConfirmWait s).list = { s.list with
    records := if isWithheld s then clearWaiters s.list.records else s.list.records } := by
  rcases failConfirmWait_cases s with ⟨h, e⟩ | ⟨h, e⟩ <;> simp [e, h]

/-- With no response withheld there is no confirm wait to end (R148). -/
theorem failConfirmWait_of_not_withheld (h : isWithheld s = false) : failConfirmWait s = s := by
  simp [failConfirmWait, h]

@[simp] theorem cancelReservation_stream : (cancelReservation s).stream = s.stream := by
  rcases cancelReservation_cases s with ⟨_, e⟩ | ⟨_, _, _, _, _, _, e⟩ | ⟨_, e⟩ <;> simp [e]

@[simp] theorem cancelReservation_dirty : (cancelReservation s).dirty = s.dirty := by
  rcases cancelReservation_cases s with ⟨_, e⟩ | ⟨_, _, _, _, _, _, e⟩ | ⟨_, e⟩ <;> simp [e]

@[simp] theorem cancelReservation_walker : (cancelReservation s).walker = s.walker := by
  rcases cancelReservation_cases s with ⟨_, e⟩ | ⟨_, _, _, _, _, _, e⟩ | ⟨_, e⟩ <;> simp [e]

@[simp] theorem cancelReservation_autoPromote :
    (cancelReservation s).events.autoPromote = s.events.autoPromote := by
  rcases cancelReservation_cases s with ⟨_, e⟩ | ⟨_, _, _, _, _, _, e⟩ | ⟨_, e⟩ <;> simp [e]

@[simp] theorem cancelReservation_autoResync :
    (cancelReservation s).events.autoResync = s.events.autoResync := by
  rcases cancelReservation_cases s with ⟨_, e⟩ | ⟨_, _, _, _, _, _, e⟩ | ⟨_, e⟩ <;> simp [e]

@[simp] theorem cancelReservation_list : (cancelReservation s).list = { s.list with reserved := false } := by
  rcases cancelReservation_cases s with ⟨h, e⟩ | ⟨_, _, _, _, _, _, e⟩ | ⟨_, e⟩ <;> rw [e]
  · rw [← h]
  · simp

/-- A flag set before a confirm wait ends is set after it (R157). -/
theorem flagSet_failConfirmWait {s : State} {e : Event} (h : flagSet s.events.flags e = true) :
    flagSet (failConfirmWait s).events.flags e = true := by
  rcases failConfirmWait_cases s with ⟨_, e'⟩ | ⟨_, e'⟩ <;> rw [e']
  · exact flagSet_raise _ h
  · exact h

/-! ### Discard (R46) -/

@[simp] theorem discard_stream (keep : Bool) : (discard keep s).stream = s.stream := by
  cases keep <;> simp [discard]

@[simp] theorem discard_dirty (keep : Bool) : (discard keep s).dirty = s.dirty := by
  cases keep <;> simp [discard]

@[simp] theorem discard_walker (keep : Bool) : (discard keep s).walker = s.walker := by
  cases keep <;> simp [discard]

@[simp] theorem discard_autoPromote (keep : Bool) : (discard keep s).events.autoPromote = s.events.autoPromote := by
  cases keep <;> simp [discard]

@[simp] theorem discard_autoResync (keep : Bool) : (discard keep s).events.autoResync = s.events.autoResync := by
  cases keep <;> simp [discard]

/-- A discard empties the list, and cancels the reservation but at the start of a FULL resync (R46). -/
@[simp] theorem discard_list (keep : Bool) :
    (discard keep s).list = { emptyList s.list with reserved := keep && s.list.reserved } := by
  cases keep <;> simp [discard, failConfirmWait_list, emptyList]

/-! ### Walker -/

@[simp] theorem pauseWalker_stream : (pauseWalker s).stream = s.stream := by
  rcases pauseWalker_cases s with ⟨_, e⟩ | ⟨_, _, e⟩ | ⟨_, _, e⟩ <;> simp [e]

@[simp] theorem pauseWalker_dirty : (pauseWalker s).dirty = s.dirty := by
  rcases pauseWalker_cases s with ⟨_, e⟩ | ⟨_, _, e⟩ | ⟨_, _, e⟩ <;> simp [e]

@[simp] theorem pauseWalker_list : (pauseWalker s).list = s.list := by
  rcases pauseWalker_cases s with ⟨_, e⟩ | ⟨_, _, e⟩ | ⟨_, _, e⟩ <;> simp [e]

@[simp] theorem pauseWalker_host : (pauseWalker s).host = s.host := by
  rcases pauseWalker_cases s with ⟨_, e⟩ | ⟨_, _, e⟩ | ⟨_, _, e⟩ <;> simp [e]

@[simp] theorem pauseWalker_events : (pauseWalker s).events = s.events := by
  rcases pauseWalker_cases s with ⟨_, e⟩ | ⟨_, _, e⟩ | ⟨_, _, e⟩ <;> simp [e]

/-- A pause touches the run state and the due pause alone (R124). -/
theorem pauseWalker_walker : (pauseWalker s).walker = { s.walker with
    run := if s.walker.run = .running ∧ fillsSync s.list = false then .paused else s.walker.run
    pauseDue := decide (s.walker.run = .running ∧ fillsSync s.list = true) || s.walker.pauseDue } := by
  rcases pauseWalker_cases s with ⟨h, e⟩ | ⟨h, f, e⟩ | ⟨h, f, e⟩ <;> simp [e, h]
  · simp [f]
  · simp [f]

/-- A walker that does not run is not paused (R124). -/
theorem pauseWalker_of_not_running (h : s.walker.run ≠ .running) : pauseWalker s = s := if_neg h

/-! ### Leaving UP (R39, R66, R81) -/

/-- Outside UP there is nothing to leave (R81). -/
theorem leaveUpCore_of_not_up (new : LinkState) (h : s.pair.link ≠ .up) : leaveUpCore new s = s := if_neg h

@[simp] theorem leaveUpCore_stream (new : LinkState) : (leaveUpCore new s).stream = s.stream := by
  unfold leaveUpCore
  split <;> simp

@[simp] theorem leaveUpCore_dirty (new : LinkState) : (leaveUpCore new s).dirty = s.dirty := by
  unfold leaveUpCore
  split <;> simp

@[simp] theorem leaveUpCore_apply (new : LinkState) : (leaveUpCore new s).apply = s.apply := by
  unfold leaveUpCore
  split <;> simp

@[simp] theorem leaveUpCore_mgmt (new : LinkState) : (leaveUpCore new s).mgmt = s.mgmt := by
  unfold leaveUpCore
  split <;> simp

@[simp] theorem leaveUpCore_autoPromote (new : LinkState) :
    (leaveUpCore new s).events.autoPromote = s.events.autoPromote := by
  unfold leaveUpCore
  split <;> simp

@[simp] theorem leaveUpCore_autoResync (new : LinkState) :
    (leaveUpCore new s).events.autoResync = s.events.autoResync := by
  unfold leaveUpCore
  split <;> simp

@[simp] theorem leaveUpCore_role (new : LinkState) : (leaveUpCore new s).pair.role = s.pair.role := by
  unfold leaveUpCore
  split <;> simp

@[simp] theorem leaveUpCore_partner (new : LinkState) : (leaveUpCore new s).pair.partner = s.pair.partner := by
  unfold leaveUpCore
  split <;> simp

@[simp] theorem leaveUpCore_promoteTimer (new : LinkState) :
    (leaveUpCore new s).pair.promoteTimer = s.pair.promoteTimer := by
  unfold leaveUpCore
  split <;> simp

@[simp] theorem leaveUpCore_drainTimer (new : LinkState) :
    (leaveUpCore new s).pair.drainTimer = s.pair.drainTimer := by
  unfold leaveUpCore
  split <;> simp

@[simp] theorem leaveUpCore_ackRequest (new : LinkState) :
    (leaveUpCore new s).tx.ackRequest = s.tx.ackRequest := by
  unfold leaveUpCore
  split <;> simp

@[simp] theorem leaveUpCore_serializer (new : LinkState) :
    (leaveUpCore new s).tx.serializer = s.tx.serializer := by
  unfold leaveUpCore
  split <;> simp

/-- Whether a response is withheld is the host port's alone (R139). -/
theorem isWithheld_congr {s t : State} (h : t.host = s.host) : isWithheld t = isWithheld s := by
  simp [isWithheld, h]

/-- The unit whose link leaves UP, its retry timer and count, its pulse timer and a due PULSE gone (R39, R66). -/
def quieted : State := { s with
  list := { s.list with retryTimer := none, retryCount := 0 }
  tx := { s.tx with pulseTimer := none, pulseDue := false } }

@[simp] theorem quieted_host : (quieted s).host = s.host := rfl
@[simp] theorem quieted_list : (quieted s).list = { s.list with retryTimer := none, retryCount := 0 } := rfl

/-- A departure from UP without what a handover makes of it: the walker pauses, and a confirm wait ends (R81). -/
theorem leaveUpCore_of_up (new : LinkState) (h : s.pair.link = .up) :
    leaveUpCore new s = enterLink new (failConfirmWait (pauseWalker (quieted s))) := if_pos h

@[simp] theorem isWithheld_pauseWalker_quieted : isWithheld (pauseWalker (quieted s)) = isWithheld s :=
  isWithheld_congr (pauseWalker_host _)

/-- What a departure from UP leaves of the list: the records without a waiter, no retry timer and no retry count. -/
theorem leaveUpCore_list (new : LinkState) (h : s.pair.link = .up) : (leaveUpCore new s).list = { s.list with
    records := if isWithheld s then clearWaiters s.list.records else s.list.records
    retryTimer := none
    retryCount := 0 } := by
  simp [leaveUpCore_of_up s new h, failConfirmWait_list]

/-- What a departure from UP leaves of the link and its timers (R77, R81, R82). -/
theorem leaveUpCore_pair (new : LinkState) (h : s.pair.link = .up) : (leaveUpCore new s).pair = { s.pair with
    link := new
    helloTimer := if new = .off then none else some s.cfg.helloInterval.toNat
    lossTimer := lossTimerAt new s } := by
  cases new <;> simp [leaveUpCore, h, helloTimerAt, lossTimerAt]

theorem leaveUpCore_tx (new : LinkState) (h : s.pair.link = .up) : (leaveUpCore new s).tx = { s.tx with
    helloDue := new != .off, pulseDue := false, pulseTimer := none } := by
  simp [leaveUpCore, h]

theorem flagSet_leaveUpCore {s : State} {e : Event} (new : LinkState) (h : flagSet s.events.flags e = true) :
    flagSet (leaveUpCore new s).events.flags e = true := by
  unfold leaveUpCore
  split
  · exact flagSet_failConfirmWait (by rw [pauseWalker_events]; exact h)
  · exact h

@[simp] theorem leaveUpCore_nextSeq (new : LinkState) : (leaveUpCore new s).list.nextSeq = s.list.nextSeq := by
  by_cases h : s.pair.link = .up
  · simp [leaveUpCore_list s new h]
  · simp [leaveUpCore_of_not_up s new h]

@[simp] theorem leaveUpCore_reserved (new : LinkState) : (leaveUpCore new s).list.reserved = s.list.reserved := by
  by_cases h : s.pair.link = .up
  · simp [leaveUpCore_list s new h]
  · simp [leaveUpCore_of_not_up s new h]

@[simp] theorem leaveUpCore_waitingMarker (new : LinkState) :
    (leaveUpCore new s).list.waitingMarker = s.list.waitingMarker := by
  by_cases h : s.pair.link = .up
  · simp [leaveUpCore_list s new h]
  · simp [leaveUpCore_of_not_up s new h]

theorem leaveUpCore_walker (new : LinkState) :
    (leaveUpCore new s).walker = (if s.pair.link = .up then pauseWalker s else s).walker := by
  unfold leaveUpCore
  split <;> simp [pauseWalker_walker, fillsSync]

end Sys2Proof.Machine
end

section
/-! PROOFS. A change of role (R74, R75, R98, R135, R153, R164): what each of its parts leaves, and the whole. -/

namespace Sys2Proof.Machine

variable (s : State) (new : Role)

/-! ### What a unit gives up with its role (R67, R74, R135, R164) -/

theorem leaveRole_of_active (h : s.pair.role = .active) : leaveRole s = leaveActive s := by
  simp only [leaveRole, h]

theorem leaveRole_of_standby (h : s.pair.role = .standby) :
    leaveRole s = { s with tx := { s.tx with ackRequest := .none } } := by
  simp only [leaveRole, h]

theorem leaveRole_of_none (h : s.pair.role = .none) : leaveRole s = s := by
  simp only [leaveRole, h]

@[simp] theorem leaveRole_pair : (leaveRole s).pair = s.pair := by
  unfold leaveRole
  split <;> simp [leaveActive]

@[simp] theorem leaveRole_stream : (leaveRole s).stream = s.stream := by
  unfold leaveRole
  split <;> simp [leaveActive]

@[simp] theorem leaveRole_apply : (leaveRole s).apply = s.apply := by
  unfold leaveRole
  split <;> simp [leaveActive]

@[simp] theorem leaveRole_mgmt : (leaveRole s).mgmt = s.mgmt := by
  unfold leaveRole
  split <;> simp [leaveActive]

@[simp] theorem leaveRole_autoPromote : (leaveRole s).events.autoPromote = s.events.autoPromote := by
  unfold leaveRole
  split <;> simp [leaveActive]

@[simp] theorem leaveRole_nextSeq : (leaveRole s).list.nextSeq = s.list.nextSeq := by
  unfold leaveRole
  split <;> simp [leaveActive, emptyList]

/-- A standby gives up its acknowledgement request with its role (R67). -/
@[simp] theorem leaveRole_tx : (leaveRole s).tx = { s.tx with
    ackRequest := if s.pair.role = .standby then .none else s.tx.ackRequest } := by
  unfold leaveRole
  split <;> simp [leaveActive, *]

/-! ### The link at a change of role (R74) -/

@[simp] theorem roleLink_stream : (roleLink s).stream = s.stream := by
  unfold roleLink
  split <;> simp

@[simp] theorem roleLink_apply : (roleLink s).apply = s.apply := by
  unfold roleLink
  split <;> simp

@[simp] theorem roleLink_mgmt : (roleLink s).mgmt = s.mgmt := by
  unfold roleLink
  split <;> simp

@[simp] theorem roleLink_dirty : (roleLink s).dirty = s.dirty := by
  unfold roleLink
  split <;> simp

@[simp] theorem roleLink_role : (roleLink s).pair.role = s.pair.role := by
  unfold roleLink
  split <;> simp

@[simp] theorem roleLink_partner : (roleLink s).pair.partner = s.pair.partner := by
  unfold roleLink
  split <;> simp

@[simp] theorem roleLink_promoteTimer : (roleLink s).pair.promoteTimer = s.pair.promoteTimer := by
  unfold roleLink
  split <;> simp

@[simp] theorem roleLink_drainTimer : (roleLink s).pair.drainTimer = s.pair.drainTimer := by
  unfold roleLink
  split <;> simp

@[simp] theorem roleLink_autoPromote : (roleLink s).events.autoPromote = s.events.autoPromote := by
  unfold roleLink
  split <;> simp

@[simp] theorem roleLink_autoResync : (roleLink s).events.autoResync = s.events.autoResync := by
  unfold roleLink
  split <;> simp

@[simp] theorem roleLink_nextSeq : (roleLink s).list.nextSeq = s.list.nextSeq := by
  unfold roleLink
  split <;> simp

@[simp] theorem roleLink_reserved : (roleLink s).list.reserved = s.list.reserved := by
  unfold roleLink
  split <;> simp

@[simp] theorem roleLink_waitingMarker : (roleLink s).list.waitingMarker = s.list.waitingMarker := by
  unfold roleLink
  split <;> simp

@[simp] theorem roleLink_ackRequest : (roleLink s).tx.ackRequest = s.tx.ackRequest := by
  unfold roleLink
  split <;> simp

@[simp] theorem roleLink_serializer : (roleLink s).tx.serializer = s.tx.serializer := by
  unfold roleLink
  split <;> simp

theorem roleLink_of_up (h : s.pair.link = .up) : roleLink s = leaveUpCore .handshake s := by
  simp only [roleLink, h]

/-- Records lose at most their waiters as the link leaves UP (R81, R148). -/
theorem roleLink_records : (roleLink s).list.records =
    if s.pair.link = .up ∧ isWithheld s then clearWaiters s.list.records else s.list.records := by
  unfold roleLink
  split <;> simp [leaveUpCore_list, *]

/-- The link of a unit that changes its role: HANDSHAKE from UP, CONFLICT and MISMATCH (R74). -/
theorem roleLink_link : (roleLink s).pair.link =
    if s.pair.link = .up ∨ s.pair.link = .conflict ∨ s.pair.link = .mismatch then .handshake else s.pair.link := by
  unfold roleLink
  split <;> simp [leaveUpCore_pair, *]

/-- A HELLO is due after a change of role, but in OFF (R74, R77). -/
theorem roleLink_helloDue : (roleLink s).tx.helloDue = if s.pair.link = .off then s.tx.helloDue else true := by
  unfold roleLink
  split <;> simp [leaveUpCore_tx, *]

/-- A walker that does not run is left alone as the link leaves UP (R124). -/
theorem roleLink_walker (h : s.walker.run ≠ .running) : (roleLink s).walker = s.walker := by
  unfold roleLink
  split <;> simp [leaveUpCore_walker, pauseWalker_of_not_running, *]

theorem roleLink_host (h : isWithheld s = false) : (roleLink s).host = s.host := by
  unfold roleLink
  split <;> simp [leaveUpCore_of_up, failConfirmWait_of_not_withheld, *]

theorem flagSet_roleLink {s : State} {e : Event} (h : flagSet s.events.flags e = true) :
    flagSet (roleLink s).events.flags e = true := by
  unfold roleLink
  split
  · exact flagSet_leaveUpCore _ h
  all_goals exact h

/-! ### The whole change -/

/-- The state at which a change of role turns to the link: the old role given up, the new one entered. -/
def roleEntered : State := enterRole new (withdrawInternal (cancelPromote (leaveRole s)))

theorem changeRole_eq : changeRole new s = raise .roleChanged (roleLink (roleEntered s new)) := rfl

@[simp] theorem roleEntered_link : (roleEntered s new).pair.link = s.pair.link := by
  simp [roleEntered, cancelPromote_eq]

@[simp] theorem changeRole_role : (changeRole new s).pair.role = new := by
  simp [changeRole_eq, roleEntered]

@[simp] theorem changeRole_mgmt : (changeRole new s).mgmt = s.mgmt := by
  simp [changeRole_eq, roleEntered, cancelPromote_eq]

@[simp] theorem changeRole_partner : (changeRole new s).pair.partner = s.pair.partner := by
  simp [changeRole_eq, roleEntered, cancelPromote_eq]

@[simp] theorem changeRole_promoteTimer : (changeRole new s).pair.promoteTimer = none := by
  simp [changeRole_eq, roleEntered, cancelPromote_eq]

@[simp] theorem changeRole_drainTimer : (changeRole new s).pair.drainTimer = s.pair.drainTimer := by
  simp [changeRole_eq, roleEntered, cancelPromote_eq]

/-- A role is taken with a closed stream; the epochs are kept (R75). -/
@[simp] theorem changeRole_stream : (changeRole new s).stream =
    { s.stream with mode := .closed, isOpen := false, basisValid := false } := by
  simp [changeRole_eq, roleEntered, cancelPromote_eq]

/-- A role is taken with a fresh standby state; the last apply fault is kept (R98, R113). -/
@[simp] theorem changeRole_apply : (changeRole new s).apply =
    { ApplyEngine.reset with lastFault := s.apply.lastFault } := by
  simp [changeRole_eq, roleEntered, cancelPromote_eq]

@[simp] theorem changeRole_nextSeq : (changeRole new s).list.nextSeq = s.list.nextSeq := by
  simp [changeRole_eq, roleEntered, cancelPromote_eq]

@[simp] theorem changeRole_autoPromote : (changeRole new s).events.autoPromote =
    if s.pair.promoteTimer.isSome then .cancelled else s.events.autoPromote := by
  simp [changeRole_eq, roleEntered, cancelPromote_eq]

@[simp] theorem changeRole_ackRequest : (changeRole new s).tx.ackRequest =
    if s.pair.role = .standby then .none else s.tx.ackRequest := by
  simp [changeRole_eq, roleEntered, cancelPromote_eq]

@[simp] theorem changeRole_serializer : (changeRole new s).tx.serializer = s.tx.serializer := by
  simp [changeRole_eq, roleEntered, cancelPromote_eq]

theorem changeRole_link : (changeRole new s).pair.link =
    if s.pair.link = .up ∨ s.pair.link = .conflict ∨ s.pair.link = .mismatch then .handshake else s.pair.link := by
  simp [changeRole_eq, roleLink_link]

theorem changeRole_helloDue : (changeRole new s).tx.helloDue =
    if s.pair.link = .off then s.tx.helloDue else true := by
  by_cases h : s.pair.link = .off <;> simp [changeRole_eq, roleLink_helloDue, roleEntered, cancelPromote_eq, h]

/-- The retry and pulse timers of a unit whose link leaves UP with its role (R74, R81). -/
theorem changeRole_of_up (h : s.pair.link = .up) :
    (changeRole new s).list.retryTimer = none ∧ (changeRole new s).list.retryCount = 0
    ∧ (changeRole new s).tx.pulseTimer = none ∧ (changeRole new s).tx.pulseDue = false := by
  have up : (roleEntered s new).pair.link = .up := by simp [h]
  simp [changeRole_eq, roleLink_of_up _ up, leaveUpCore_list _ _ up, leaveUpCore_tx _ _ up]

@[simp] theorem changeRole_roleChanged : flagSet (changeRole new s).events.flags .roleChanged = true := by
  simp [changeRole_eq]

/-- A role taken over an empty list, map and walker leaves them empty (R74). -/
theorem changeRole_records (h : s.list.records = []) : (changeRole new s).list.records = [] := by
  have entered : (roleEntered s new).list.records = [] := by
    simp only [roleEntered, enterRole_list, withdrawInternal_list, cancelPromote_eq, leaveRole]
    split <;> simp [leaveActive, emptyList, h]
  simp [changeRole_eq, roleLink_records, entered, clearWaiters]

/-! ### A unit that leaves ACTIVE (R74, R135, R149, R164) -/

/-- A confirm wait of a unit that leaves ACTIVE ends with FAULT (R74, R148). -/
theorem leaveActive_withheld {q : HostReq} (h : s.host.port = .withheld q) :
    (leaveActive s).host = { s.host with port := .idle, response := some .fault, confirmTimer := none }
    ∧ flagSet (leaveActive s).events.flags .confirmFail = true := by
  have held : isWithheld s = true := by simp [isWithheld, h]
  cases hr : s.list.reserved <;>
    simp [leaveActive, discard, failConfirmWait, held, cancelReservation, emptyList, hr, endConfirmWait]

/-- A CONFIRM write forwarded with its reservation is condemned as its unit leaves ACTIVE (R74, R149). -/
theorem leaveActive_condemned {q : HostReq} {c : HostClass} (h : s.host.port = .forwarded q c false)
    (reserved : s.list.reserved = true) (mirrored : isMirrored q c = true) (confirm : c.policy = .confirm) :
    (leaveActive s).host = { s.host with port := .forwarded q c true }
    ∧ flagSet (leaveActive s).events.flags .confirmFail = true := by
  have notHeld : isWithheld s = false := by simp [isWithheld, h]
  simp [leaveActive, discard, failConfirmWait, notHeld, cancelReservation, emptyList, reserved, h, mirrored, confirm]

theorem changeRole_host_of_active (h : s.pair.role = .active) (answered : isWithheld (leaveActive s) = false) :
    (changeRole new s).host = (leaveActive s).host := by
  have entered : (roleEntered s new).host = (leaveActive s).host := by
    simp [roleEntered, cancelPromote_eq, leaveRole_of_active s h]
  rw [changeRole_eq, raise_host, roleLink_host _ ((isWithheld_congr entered).trans answered), entered]

/-- A flag that the old role's end sets is set after the change (R157). -/
theorem changeRole_flag_of_active {e : Event} (h : s.pair.role = .active)
    (set : flagSet (leaveActive s).events.flags e = true) :
    flagSet (changeRole new s).events.flags e = true := by
  refine flagSet_raise _ (flagSet_roleLink ?_)
  simpa [cancelPromote_eq, leaveRole_of_active s h] using set

/-- The list, the map and the walker of a unit that leaves ACTIVE (R74, R135, R164). -/
theorem changeRole_of_active (h : s.pair.role = .active) :
    (changeRole new s).list.records = [] ∧ (changeRole new s).list.reserved = false
    ∧ (changeRole new s).list.waitingMarker = none ∧ (changeRole new s).dirty = []
    ∧ (changeRole new s).walker = retiredWalker s.stream.mode s.walker
    ∧ (changeRole new s).events.autoResync = if s.walker.autoRequest then .noEffect else s.events.autoResync := by
  have left := leaveRole_of_active s h
  have stopped : (roleEntered s new).walker = retiredWalker s.stream.mode s.walker := by
    simp [roleEntered, cancelPromote_eq, left, leaveActive]
  refine ⟨?_, ?_, ?_, ?_, ?_, ?_⟩
  · simp [changeRole_eq, roleLink_records, roleEntered, cancelPromote_eq, left, leaveActive, emptyList, clearWaiters]
  · simp [changeRole_eq, roleEntered, cancelPromote_eq, left, leaveActive]
  · simp [changeRole_eq, roleEntered, cancelPromote_eq, left, leaveActive, emptyList]
  · simp [changeRole_eq, roleEntered, cancelPromote_eq, left, leaveActive]
  · rw [changeRole_eq, raise_walker (by decide), roleLink_walker _ (by simp [stopped, retiredWalker]), stopped]
  · simp [changeRole_eq, roleEntered, cancelPromote_eq, left, leaveActive]

/-- A unit in another role has no list, map or walker to give up; a stopped walker stays as it is (R74). -/
theorem changeRole_of_inactive (h : s.pair.role ≠ .active) (stopped : s.walker.run ≠ .running) :
    (changeRole new s).list.reserved = s.list.reserved
    ∧ (changeRole new s).list.waitingMarker = s.list.waitingMarker ∧ (changeRole new s).dirty = s.dirty
    ∧ (changeRole new s).walker = s.walker := by
  have left : leaveRole s = { s with tx := { s.tx with
      ackRequest := if s.pair.role = .standby then .none else s.tx.ackRequest } } := by
    cases hr : s.pair.role with
    | active => exact absurd hr h
    | standby => simp [leaveRole_of_standby s hr]
    | none => simp [leaveRole_of_none s hr]
  have walker : (roleEntered s new).walker = s.walker := by simp [roleEntered, cancelPromote_eq, left]
  refine ⟨?_, ?_, ?_, ?_⟩
  · simp [changeRole_eq, roleEntered, cancelPromote_eq, left]
  · simp [changeRole_eq, roleEntered, cancelPromote_eq, left]
  · simp [changeRole_eq, roleEntered, cancelPromote_eq, left]
  · rw [changeRole_eq, raise_walker (by decide), roleLink_walker _ (by rwa [walker]), walker]

/-! ### The obligation -/

/-- Settles O39: the parts of a change of role, and for a unit that leaves ACTIVE what it gives up. -/
theorem roleChange : Obligations.RoleChange := by
  intro new s t
  refine ⟨changeRole_role s new, changeRole_cfg .., changeRole_mgmt s new, changeRole_partner s new,
    changeRole_stream s new, changeRole_apply s new, changeRole_nextSeq s new, ?_, ?_, ?_, ?_, ?_, ?sameLink, ?_, ?_,
    changeRole_of_up s new, changeRole_promoteTimer s new, changeRole_autoPromote s new, changeRole_roleChanged s new,
    ?active, ?standby⟩
  case active =>
    intro active
    obtain ⟨records, reserved, marker, dirty, walker, autoResync⟩ := changeRole_of_active s new active
    refine ⟨records, reserved, marker, dirty, ?_, ?_, ?_, ?_, ?_, ?_, ?_, ?withheld, ?condemned⟩
    case withheld =>
      intro q port
      obtain ⟨host, flag⟩ := leaveActive_withheld s port
      have answered : isWithheld (leaveActive s) = false := by simp [isWithheld, host]
      have := changeRole_host_of_active s new active answered
      simp only [t, this, host, true_and]
      exact changeRole_flag_of_active s new active flag
    case condemned =>
      intro q c port held write role policy
      have mirrored : isMirrored q c = true := by simp [isMirrored, isMirroredWrite, write, role, policy, Policy.mirrors]
      obtain ⟨host, flag⟩ := leaveActive_condemned s port held mirrored policy
      have answered : isWithheld (leaveActive s) = false := by simp [isWithheld, host]
      exact ⟨by simp [t, changeRole_host_of_active s new active answered, host],
        changeRole_flag_of_active s new active flag⟩
    all_goals simp +contextual [t, walker, autoResync, retiredWalker]
  case standby => simp +contextual [t]
  case sameLink => rintro (off | down | shaking) <;> simp [t, changeRole_link, *]
  all_goals simp +contextual [t, withdrawn, changeRole_link, changeRole_helloDue]

end Sys2Proof.Machine
end

section
/-! PROOFS. The records of a sound replay list (R23, R25, R26, R30), and what each change of the list keeps of them. -/

namespace Sys2Proof.Machine

open Sys2Proof.Safety

/-- What `Safety.listWf` and `Safety.windowKept` say of a list's records, by the parts of the state that they read:
the window, the reservation, the next sequence and the records. -/
structure RecordsOk (window : Nat) (reserved : Bool) (next : Half) (rs : List Rec) : Prop where
  entries : rs.length + reserved.toNat ≤ 64
  numbered : Safety.numbered next rs = true
  ordered : rs.Pairwise fun a b => isSent b = true → isSent a = true
  oneWrite : rs.countP isOpenWrite ≤ 1
  oneSync : rs.countP isOpenSync ≤ 1
  inWindow : rs.countP isSent ≤ window

/-- A sound list under the window in force. -/
def ListOk (window : BitVec 5) (l : ReplayList) : Prop :=
  RecordsOk window.toNat l.reserved l.nextSeq l.records

/-- Every SENT record is older than every record that is not: whatever stands behind a record that is not SENT is
not SENT either (R30). -/
theorem sentFirst_iff (rs : List Rec) :
    sentFirst rs = true ↔ rs.Pairwise fun a b => isSent b = true → isSent a = true := by
  induction rs with
  | nil => simp [sentFirst]
  | cons r rest ih =>
    rw [sentFirst, List.pairwise_cons]
    cases hr : isSent r with
    | true => simp [ih]
    | false =>
      simp only [Bool.false_eq_true, if_false, List.all_eq_true, Bool.not_eq_true', imp_false, Bool.not_eq_true]
      refine ⟨fun none => ⟨none, ?_⟩, And.left⟩
      exact List.pairwise_of_forall_mem_list fun a _ b hb sent => absurd sent (by simp [none b hb])

theorem listOk_iff {window : BitVec 5} {l : ReplayList} :
    ListOk window l ↔ listWf l = true ∧ sentCount l ≤ window.toNat := by
  simp only [listWf, Bool.and_eq_true, decide_eq_true_eq, sentFirst_iff]
  constructor
  · rintro ⟨entries, numbered, ordered, oneWrite, oneSync, inWindow⟩
    exact ⟨⟨⟨⟨⟨entries, numbered⟩, ordered⟩, oneWrite⟩, oneSync⟩, inWindow⟩
  · rintro ⟨⟨⟨⟨⟨entries, numbered⟩, ordered⟩, oneWrite⟩, oneSync⟩, inWindow⟩
    exact ⟨entries, numbered, ordered, oneWrite, oneSync, inWindow⟩

section
variable {window : Nat} {reserved : Bool} {next : Half} {rs : List Rec}

/-! ### Numbering (R23, R26) -/

/-- The numbering reads the sequences alone. -/
theorem numbered_map {f : Rec → Rec} (seq : ∀ r, (f r).seq = r.seq) :
    numbered next (rs.map f) = numbered next rs := by
  induction rs with
  | nil => rfl
  | cons r rest ih => simp [numbered, ih, seq]

/-- The records of a list in two parts: the older part ends where the newer one begins. -/
theorem numbered_append (older newer : List Rec) : numbered next (older ++ newer) =
    (numbered (next - BitVec.ofNat 16 newer.length) older && numbered next newer) := by
  induction older with
  | nil => simp [numbered]
  | cons r rest ih =>
    have shift : (r.seq + BitVec.ofNat 16 (rest.length + newer.length + 1) == next) =
        (r.seq + BitVec.ofNat 16 (rest.length + 1) == next - BitVec.ofNat 16 newer.length) := by
      rw [Bool.eq_iff_iff, beq_iff_eq, beq_iff_eq, eq_sub_iff_add_eq, add_assoc r.seq, ← BitVec.ofNat_add,
        Nat.add_right_comm]
    simp [numbered, ih, shift, Bool.and_assoc]

/-- Every record numbers one lower, and so does the next sequence (R29). -/
theorem numbered_lower : numbered (next - 1#16) (rs.map fun x => { x with seq := x.seq - 1#16 }) =
    numbered next rs := by
  induction rs with
  | nil => rfl
  | cons r rest ih =>
    have shift : (r.seq - 1#16 + BitVec.ofNat 16 (rest.length + 1) == next - 1#16) =
        (r.seq + BitVec.ofNat 16 (rest.length + 1) == next) := by
      rw [Bool.eq_iff_iff, beq_iff_eq, beq_iff_eq, sub_add_eq_add_sub, sub_left_inj]
    simp [numbered, ih, shift]

/-! ### Changes that keep a list's records sound -/

theorem recordsOk_nil (window : Nat) (reserved : Bool) (next : Half) : RecordsOk window reserved next [] where
  entries := by cases reserved <;> decide
  numbered := rfl
  ordered := .nil
  oneWrite := by simp
  oneSync := by simp
  inWindow := by simp

/-- A reservation is returned or cancelled (R14). -/
theorem RecordsOk.unreserve (h : RecordsOk window reserved next rs) : RecordsOk window false next rs :=
  { h with entries := by have := h.entries; simp; omega }

/-- An entry is reserved where one is free or the reservation is held already (R13). -/
theorem RecordsOk.reserve (h : RecordsOk window reserved next rs) (free : rs.length + reserved.toNat < 64) :
    RecordsOk window true next rs :=
  { h with entries := by simp; omega }

/-- Records change in place, each with its number: none opens, and the SENT ones stay so, or none is left SENT. -/
theorem RecordsOk.map (h : RecordsOk window reserved next rs) {f : Rec → Rec} (seq : ∀ r, (f r).seq = r.seq)
    (write : ∀ r, isOpenWrite (f r) = true → isOpenWrite r = true)
    (sync : ∀ r, isOpenSync (f r) = true → isOpenSync r = true)
    (sent : (∀ r, isSent (f r) = isSent r) ∨ ∀ r, isSent (f r) = false) :
    RecordsOk window reserved next (rs.map f) where
  entries := by simpa using h.entries
  numbered := (numbered_map seq).trans h.numbered
  ordered := by
    rw [List.pairwise_map]
    rcases sent with same | none
    · simpa [same] using h.ordered
    · exact h.ordered.imp fun _ sent => absurd sent (by simp [none])
  oneWrite := by
    rw [List.countP_map]
    exact (List.countP_mono_left fun r _ => write r).trans h.oneWrite
  oneSync := by
    rw [List.countP_map]
    exact (List.countP_mono_left fun r _ => sync r).trans h.oneSync
  inWindow := by
    rw [List.countP_map]
    rcases sent with same | none
    · exact (List.countP_mono_left fun r _ sent => by simpa [same] using sent).trans h.inWindow
    · simp [Function.comp_def, none]

/-- Records leave at the oldest end (R33). -/
theorem RecordsOk.suffix (h : RecordsOk window reserved next rs) {kept : List Rec} (suffix : kept <:+ rs) :
    RecordsOk window reserved next kept := by
  have sub := suffix.sublist
  refine ⟨?_, ?_, h.ordered.sublist sub, (sub.countP_le).trans h.oneWrite, (sub.countP_le).trans h.oneSync,
    (sub.countP_le).trans h.inWindow⟩
  · have := sub.length_le
    have := h.entries
    omega
  · obtain ⟨removed, rfl⟩ := suffix
    have := h.numbered
    rw [numbered_append, Bool.and_eq_true] at this
    exact this.2

/-- A record is appended that is not SENT, in a free entry, the only open one of its kind (R19, R26, R27). -/
theorem RecordsOk.append (h : RecordsOk window reserved next rs) {r : Rec} (free : rs.length + reserved.toNat < 64)
    (seq : r.seq = next) (sent : isSent r = false) (write : isOpenWrite r = true → rs.countP isOpenWrite = 0)
    (sync : isOpenSync r = true → rs.countP isOpenSync = 0) :
    RecordsOk window reserved (next + 1#16) (rs ++ [r]) where
  entries := by simp; omega
  numbered := by simpa [numbered_append, Safety.numbered, seq] using h.numbered
  ordered := by
    rw [List.pairwise_append]
    simp [h.ordered, sent]
  oneWrite := by
    have := h.oneWrite
    cases hw : isOpenWrite r
    · simpa [hw] using this
    · simp [hw, write hw]
  oneSync := by
    have := h.oneSync
    cases hs : isOpenSync r
    · simpa [hs] using this
    · simp [hs, sync hs]
  inWindow := by simpa [sent] using h.inWindow

/-- The newest record is removed with its number (R94). -/
theorem RecordsOk.dropLast (h : RecordsOk window reserved next rs) (held : rs ≠ []) :
    RecordsOk window reserved (next - 1#16) rs.dropLast := by
  have sub := List.dropLast_sublist rs
  refine ⟨?_, ?_, h.ordered.sublist sub, (sub.countP_le).trans h.oneWrite, (sub.countP_le).trans h.oneSync,
    (sub.countP_le).trans h.inWindow⟩
  · have := sub.length_le
    have := h.entries
    omega
  · have := h.numbered
    rw [← List.dropLast_append_getLast held, numbered_append, Bool.and_eq_true] at this
    exact this.1

end

/-! ### Open records (R22, R25) -/

theorem isOpenSync_iff {r : Rec} : isOpenSync r = true ↔
    r.state = .opened ∧ ∃ region start words, r.body = .data .sync region start words := by
  unfold isOpenSync isSync
  split <;> simp_all

theorem isOpenWrite_iff {r : Rec} : isOpenWrite r = true ↔
    r.state = .opened ∧ ∃ region start words, r.body = .data .write region start words := by
  unfold isOpenWrite isWrite
  split <;> simp_all

/-! ### The list's own operations -/

section
variable {window : BitVec 5} {l : ReplayList}

theorem listOk_of_empty (h : l.records = []) : ListOk window l := by
  rw [ListOk, h]
  exact recordsOk_nil _ _ _

/-- After a close no WRITE record is open (R20). -/
theorem closeWrite_noOpenWrite (l : ReplayList) : (closeWrite l).records.countP isOpenWrite = 0 := by
  rw [List.countP_eq_zero]
  intro r hr
  obtain ⟨x, -, rfl⟩ := List.mem_map.mp hr
  split
  · simp [isOpenWrite]
  · assumption

theorem fillsSync_eq_false_iff : fillsSync l = false ↔ l.records.countP isOpenSync = 0 := by
  simp [fillsSync, List.countP_eq_zero]

theorem closeWrite_ok (h : ListOk window l) : ListOk window (closeWrite l) := by
  refine RecordsOk.map h (fun r => ?_) (fun r => ?_) (fun r => ?_) (.inl fun r => ?_) <;> split <;>
    simp_all [isOpenWrite, isOpenSync, isSent]

/-- Closing the open WRITE record opens and closes no SYNC record (R20). -/
theorem fillsSync_closeWrite : fillsSync (closeWrite l) = fillsSync l := by
  have keeps : ∀ r : Rec, isOpenSync (if isOpenWrite r then { r with state := .pending } else r) = isOpenSync r := by
    rintro ⟨_, ⟨⟨⟩⟩ | _ | _ | _, ⟨⟩, _, _⟩ <;> rfl
  simp [fillsSync, closeWrite, List.any_map, Function.comp_def, keeps]

theorem clearWaiters_ok {reserved : Bool} {next : Half} {rs : List Rec}
    (h : RecordsOk window.toNat reserved next rs) : RecordsOk window.toNat reserved next (clearWaiters rs) :=
  h.map (fun _ => rfl) (fun _ => id) (fun _ => id) (.inl fun _ => rfl)

theorem unsend_ok {reserved : Bool} {next : Half} {rs : List Rec}
    (h : RecordsOk window.toNat reserved next rs) : RecordsOk window.toNat reserved next (unsend rs) := by
  refine h.map (fun r => ?_) (fun r => ?_) (fun r => ?_) (.inr fun r => ?_) <;> split <;>
    simp_all [isOpenWrite, isOpenSync, isSent]

/-- A record is added, PENDING, where an entry is free (R26, R27). -/
theorem addRecord_pending_ok (h : ListOk window l) (body : RecordBody) (waiter : Bool) (free : occupancy l < 64) :
    ListOk window (addRecord body .pending waiter l) :=
  RecordsOk.append h free rfl rfl (by simp [isOpenWrite]) (by simp [isOpenSync])

/-- The open SYNC record leaves, and the records behind it number one lower (R29). -/
theorem dropOpenSync_append {before after : List Rec} {r : Rec} (first : ∀ x ∈ before, isOpenSync x = false)
    (sync : isOpenSync r = true) : dropOpenSync (before ++ r :: after) =
      before ++ after.map fun x => { x with seq := x.seq - 1#16 } := by
  induction before with
  | nil => simp [dropOpenSync, sync]
  | cons x before ih =>
    have other := first x (by simp)
    simp [dropOpenSync, other, ih fun y hy => first y (by simp [hy])]

theorem abandonSync_ok (h : ListOk window l) : ListOk window (abandonSync l) := by
  unfold abandonSync
  split
  case isFalse => exact h
  case isTrue fills =>
    obtain ⟨r, found⟩ := List.find?_isSome.mpr (by simpa [fillsSync] using fills) |> Option.isSome_iff_exists.mp
    obtain ⟨sync, before, after, split, first⟩ := List.find?_eq_some_iff_append.mp found
    have first : ∀ x ∈ before, isOpenSync x = false := fun x hx => by simpa using first x hx
    have sub : (before ++ after).Sublist l.records := by
      rw [split]
      exact List.Sublist.append_left (List.sublist_cons_self r after) before
    have parts := h.numbered
    rw [split, numbered_append, Bool.and_eq_true, List.length_cons] at parts
    obtain ⟨older, newer⟩ := parts
    have same (p : Rec → Bool) (seqless : ∀ x : Rec, p { x with seq := x.seq - 1#16 } = p x) :
        (before ++ after.map fun x : Rec => { x with seq := x.seq - 1#16 }).countP p ≤ l.records.countP p := by
      refine le_trans (le_of_eq ?_) sub.countP_le
      simp [List.countP_append, List.countP_map, Function.comp_def, seqless]
    unfold ListOk
    simp only [split, dropOpenSync_append first sync]
    refine ⟨?_, ?_, ?_, (same _ fun _ => rfl).trans h.oneWrite, (same _ fun _ => rfl).trans h.oneSync,
      (same _ fun _ => rfl).trans h.inWindow⟩
    · have := h.entries
      simp only [split, List.length_append, List.length_cons, List.length_map] at *
      omega
    · rw [numbered_append, numbered_lower, Bool.and_eq_true, List.length_map]
      refine ⟨?_, ?_⟩
      · rw [← older, sub_sub, BitVec.ofNat_add, add_comm]
      · simp only [numbered, Bool.and_eq_true] at newer
        exact newer.2
    · have ordered := h.ordered.sublist sub
      simpa [List.pairwise_append, List.pairwise_map, isSent] using ordered

/-- The list without its HANDOVER record, or as it was (R94). -/
theorem dropHandover_ok (h : ListOk window l) : ListOk window (dropHandover l) := by
  unfold dropHandover
  split
  case isFalse => exact h
  case isTrue held =>
    refine RecordsOk.dropLast h fun none => ?_
    simp [handoverIn, none] at held

/-- ACK progress leaves a suffix of the records (R33). -/
theorem trimmedList_ok {s : State} (h : ListOk window s.list) (removed : List Rec) {kept : List Rec}
    (suffix : kept <:+ s.list.records) : ListOk window (trimmedList s removed kept) := by
  unfold trimmedList
  split
  · exact h
  · exact RecordsOk.suffix h suffix

/-- The first record that is not SENT is the one whose frame starts (R30, R31). -/
theorem sendFirst_append {before after : List Rec} {r : Rec} (sent : ∀ x ∈ before, isSent x = true)
    (unsent : isSent r = false) : sendFirst (before ++ r :: after) =
      before ++ { r with state := .sent, transmitted := true } :: after := by
  induction before with
  | nil => simp [sendFirst, unsent]
  | cons x before ih => simp [sendFirst, sent x (by simp), ih fun y hy => sent y (by simp [hy])]

/-- The oldest record that is not SENT becomes SENT while the window has room (R30, R31). -/
theorem sendFirst_ok {window : Nat} {reserved : Bool} {next : Half} {rs : List Rec} {r : Rec}
    (h : RecordsOk window reserved next rs) (room : rs.countP isSent < window)
    (found : rs.find? (fun x => !isSent x) = some r) : RecordsOk window reserved next (sendFirst rs) := by
  obtain ⟨unsent, before, after, rfl, first⟩ := List.find?_eq_some_iff_append.mp found
  have unsent : isSent r = false := by simpa using unsent
  have first : ∀ x ∈ before, isSent x = true := fun x hx => by simpa using first x hx
  obtain ⟨entries, numbering, ordered, oneWrite, oneSync, inWindow⟩ := h
  rw [sendFirst_append first unsent]
  refine ⟨by simpa using entries, ?_, ?_, ?_, ?_, ?_⟩
  · simpa [numbered_append, numbered] using numbering
  · simp only [List.pairwise_append, List.pairwise_cons] at ordered ⊢
    obtain ⟨older, ⟨-, newer⟩, between⟩ := ordered
    exact ⟨older, ⟨fun _ _ _ => rfl, newer⟩, fun x hx y _ _ => first x hx⟩
  · simp only [List.countP_append, List.countP_cons] at oneWrite ⊢
    simp only [isOpenWrite] at *
    simp
    omega
  · simp only [List.countP_append, List.countP_cons] at oneSync ⊢
    simp only [isOpenSync] at *
    simp
    omega
  · simp only [List.countP_append, List.countP_cons, unsent] at room ⊢
    simp [isSent] at room ⊢
    omega

/-- A word is put at the end of the open SYNC record, which closes at its sixteenth (R127). -/
theorem fillSync_ok (h : ListOk window l) (data : Word) : ListOk window (fillSync data l) := by
  have changed (r : Rec) (isOpen : isOpenSync r = true) (state : RecState) (notSent : state ≠ .sent) :
      let filled : Rec := { r with body := appendWord { mask := fullMask, data := data } r.body, state := state }
      isOpenWrite filled = false ∧ isSent filled = false ∧ isSent r = false := by
    obtain ⟨opened, region, start, words, body⟩ := isOpenSync_iff.mp isOpen
    simp [isOpenWrite, isSent, isWrite, appendWord, body, opened, notSent]
  have state : (if decide (syncWords l + 1 = Config.wordsPerChunk) then RecState.pending else .opened) ≠ .sent := by
    split <;> decide
  refine RecordsOk.map h (fun r => ?_) (fun r => ?_) (fun r => ?_) (.inl fun r => ?_)
  · split <;> rfl
  · split
    case isTrue isOpen => exact fun write => absurd write (by rw [(changed r isOpen _ state).1]; decide)
    case isFalse => exact id
  · split
    case isTrue isOpen => exact fun _ => isOpen
    case isFalse => exact id
  · split
    case isTrue isOpen => exact (changed r isOpen _ state).2.1.trans (changed r isOpen _ state).2.2.symm
    case isFalse => rfl

end

end Sys2Proof.Machine
end

section
/-! PROOFS. The joint invariant of `Safety.sound` without the memory port's part, and what each shared operation keeps
of it. An operation that any unit runs keeps `Steady`; one that only an ACTIVE unit runs keeps `Working`, the same
invariant of an ACTIVE unit, of which most is said by its role. -/

namespace Sys2Proof.Machine

open Sys2Proof.Safety

/-! ### The invariant -/

/-- The parts of `sound` that an operation within a step keeps, but for the held write and the memory port's bounds;
with a HANDOVER only on an ACTIVE unit left out as well, since a completion sets its result last. -/
def Orderly (s : State) : Prop :=
  ListOk s.cfg.window s.list ∧ inactiveEmpty s = true ∧ standbyOnly s = true ∧ loadingIsNone s = true
    ∧ resetIsNone s = true ∧ walkerReadIsActive s = true ∧ dirtyWf s.dirty = true ∧ takenInside s.walker = true
    ∧ rxWf s.rx = true

/-- What every shared operation of a step keeps. -/
def Steady (s : State) : Prop := Orderly s ∧ handoverIsActive s = true

/-- The invariant of an ACTIVE unit. -/
def Working (s : State) : Prop :=
  s.pair.role = .active ∧ s.phase = .running ∧ s.loader.state ≠ .loading ∧ standbyOnly s = true
    ∧ ListOk s.cfg.window s.list ∧ dirtyWf s.dirty = true ∧ takenInside s.walker = true ∧ rxWf s.rx = true

/-- What holds between the steps: beside it a write is held only on an ACTIVE unit (R144, R146). -/
def Kept (s : State) : Prop := Steady s ∧ heldIsActive s = true

theorem sound_iff {s : State} :
    sound s = true ↔ Kept s ∧ fairnessWf s.mem = true ∧ oneInternal s.mem = true := by
  simp only [sound, Kept, Steady, Orderly, listOk_iff, Bool.and_eq_true, windowKept, decide_eq_true_eq]
  tauto

section
variable {s t : State}

theorem Orderly.list (h : Orderly s) : ListOk s.cfg.window s.list := h.1
theorem Orderly.empty (h : Orderly s) : inactiveEmpty s = true := h.2.1
theorem Orderly.standby (h : Orderly s) : standbyOnly s = true := h.2.2.1
theorem Orderly.reads (h : Orderly s) : walkerReadIsActive s = true := h.2.2.2.2.2.1
theorem Orderly.rx (h : Orderly s) : rxWf s.rx = true := h.2.2.2.2.2.2.2.2

/-- A unit with a role runs, and reads no image (R73, R194). -/
theorem Orderly.ready (h : Orderly s) (role : s.pair.role ≠ .none) :
    s.phase = .running ∧ s.loader.state ≠ .loading := by
  obtain ⟨-, -, -, loading, reset, -⟩ := h
  simpa [loadingIsNone, resetIsNone, role, and_comm] using And.intro loading reset

theorem Steady.orderly (h : Steady s) : Orderly s := h.1

theorem Steady.working (h : Steady s) (active : s.pair.role = .active) : Working s := by
  obtain ⟨running, loader⟩ := h.1.ready (by simp [active])
  obtain ⟨⟨list, -, standby, -, -, -, dirty, taken, rx⟩, -⟩ := h
  exact ⟨active, running, loader, standby, list, dirty, taken, rx⟩

theorem Working.role (h : Working s) : s.pair.role = .active := h.1
theorem Working.list (h : Working s) : ListOk s.cfg.window s.list := h.2.2.2.2.1
theorem Working.dirty (h : Working s) : dirtyWf s.dirty = true := h.2.2.2.2.2.1
theorem Working.taken (h : Working s) : takenInside s.walker = true := h.2.2.2.2.2.2.1

theorem Working.steady (h : Working s) : Steady s := by
  obtain ⟨active, running, loader, standby, list, dirty, taken, rx⟩ := h
  refine ⟨⟨list, ?_, standby, ?_, ?_, ?_, dirty, taken, rx⟩, ?_⟩ <;>
    simp [inactiveEmpty, loadingIsNone, resetIsNone, walkerReadIsActive, handoverIsActive, active, running, loader]

/-- A unit that is not ACTIVE keeps nothing of an ACTIVE one (R73, R75, R115, R137). -/
theorem Orderly.inactive (h : Orderly s) (role : s.pair.role ≠ .active) :
    s.list.records = [] ∧ s.list.reserved = false ∧ s.list.waitingMarker = none ∧ s.dirty = []
    ∧ s.stream.mode = .closed ∧ s.stream.isOpen = false ∧ s.stream.basisValid = false
    ∧ s.walker.run = .stopped ∧ s.walker.taken = false ∧ s.walker.autoRequest = false := by
  simpa [inactiveEmpty, role, and_assoc] using h.empty

/-- A unit that is not STANDBY keeps nothing of a standby (R67, R98). -/
theorem Orderly.notStandby (h : Orderly s) (role : s.pair.role ≠ .standby) :
    s.apply.consistency = .inconsistent ∧ s.apply.heldEpoch = none ∧ s.apply.held = none
    ∧ s.apply.handoverPending = none ∧ s.apply.expected = 0#16 ∧ s.tx.ackRequest = .none := by
  simpa [standbyOnly, role, and_assoc] using h.standby

theorem Steady.active_of_handover (h : Steady s) (running : handoverRunning s = true) : s.pair.role = .active := by
  simpa [handoverIsActive, running] using h.2

/-- A walker runs only on an ACTIVE unit (R137). -/
theorem Orderly.active_of_run (h : Orderly s) (run : s.walker.run ≠ .stopped) : s.pair.role = .active := by
  by_contra role
  obtain ⟨-, -, -, -, -, -, -, stopped, -⟩ := h.inactive role
  exact run stopped

/-- An ACTIVE unit whose list, map, walker and receiver are in order after an operation that leaves the rest alone. -/
theorem Working.of (h : Working s) (list : ListOk t.cfg.window t.list) (dirty : dirtyWf t.dirty = true)
    (taken : takenInside t.walker = true) (role : t.pair.role = s.pair.role := by simp)
    (phase : t.phase = s.phase := by simp) (loader : t.loader = s.loader := by simp)
    (apply : t.apply = s.apply := by simp) (ack : t.tx.ackRequest = s.tx.ackRequest := by simp)
    (rx : t.rx = s.rx := by simp) : Working t := by
  obtain ⟨active, running, loading, standby, -, -, -, rxOk⟩ := h
  refine ⟨role.trans active, phase.trans running, loader ▸ loading, ?_, list, dirty, taken, rx ▸ rxOk⟩
  simpa [standbyOnly, role, apply, ack] using standby

/-! ### Events and the host port -/

theorem raise_working (e : Event) (h : Working s) : Working (raise e s) := by
  refine h.of ?_ ?_ ?_
  · simpa using h.list
  · simpa using h.dirty
  · simpa [takenInside] using h.taken

/-- An event has no part in the invariant but the auto-resync request, which only an ACTIVE unit places (R84, R164). -/
theorem raise_steady {e : Event} (he : e ≠ .partnerInconsistent) (h : Steady s) : Steady (raise e s) := by
  rcases raise_cases e s with e' | ⟨-, -, e'⟩ | ⟨inconsistent, -⟩
  · rw [e']; exact h
  · rw [e']; exact h
  · exact absurd inconsistent he

/-- Records that change in place are as many as before (R73). -/
theorem steady_mapRecords {f : Rec → Rec} (h : Steady s)
    (list : RecordsOk s.cfg.window.toNat s.list.reserved s.list.nextSeq (s.list.records.map f)) :
    Steady { s with list := { s.list with records := s.list.records.map f } } := by
  obtain ⟨⟨-, empty, rest⟩, handover⟩ := h
  exact ⟨⟨list, by simpa [inactiveEmpty] using empty, rest⟩, handover⟩

theorem endConfirmWait_steady (r : HostResponse) (h : Steady s) : Steady (endConfirmWait r s) :=
  steady_mapRecords h (clearWaiters_ok h.orderly.list)

theorem failConfirmWait_steady (h : Steady s) : Steady (failConfirmWait s) := by
  unfold failConfirmWait
  split
  · exact raise_steady (by decide) (endConfirmWait_steady _ h)
  · exact h

theorem discard_working (keep : Bool) (h : Working s) : Working (discard keep s) := by
  refine h.of (listOk_of_empty (by simp [emptyList])) ?_ ?_
  · simpa using h.dirty
  · simpa using h.taken

/-! ### Walker and markers -/

theorem pauseWalker_steady (h : Steady s) : Steady (pauseWalker s) := by
  by_cases run : s.walker.run = .running
  · have active := h.orderly.active_of_run (by simp [run])
    refine ((h.working active).of ?_ ?_ ?_).steady
    · simpa using h.orderly.list
    · simpa using (h.working active).dirty
    · simpa [takenInside, pauseWalker_walker] using (h.working active).taken
  · rw [pauseWalker_of_not_running s run]
    exact h

theorem askMarker_working (body : RecordBody) (h : Working s) : Working (askMarker body s) := by
  rcases askMarker_cases s body with ⟨free, e⟩ | ⟨-, e⟩ <;> rw [e]
  · refine h.of (addRecord_pending_ok h.list _ _ ?_) h.dirty h.taken
    exact Nat.lt_of_le_of_lt (Nat.le_add_right _ _) (of_decide_eq_true free)
  · exact h

theorem walkerGoOn_working (h : Working s) : Working (walkerGoOn s) := by
  unfold walkerGoOn
  dsimp only
  split
  · split
    · exact h
    · exact h.of h.list h.dirty rfl
  · exact h

theorem resumeWalker_steady (h : Steady s) : Steady (resumeWalker s) := by
  unfold resumeWalker
  split
  case isTrue paused =>
    have active := h.orderly.active_of_run (by simp [paused])
    exact Working.steady (walkerGoOn_working (h.working active))
  case isFalse => exact h

/-! ### Resync starts and spills -/

theorem Working.dirtied (h : Working s) {marks : List Nat} (wf : dirtyWf marks = true) :
    Working { s with dirty := marks } := h.of h.list wf h.taken

theorem beginFull_working (h : Working s) : Working (beginFull s) := by
  unfold beginFull
  have emptied : Working (if s.list.records.isEmpty then s else discard true s) := by
    split
    · exact h
    · exact discard_working true h
  exact emptied.dirtied (dirtyWf_fullMarking _ _)

theorem resyncStart_working (h : Working s) : Working (resyncStart s) := by
  unfold resyncStart
  refine askMarker_working _ ?_
  dsimp only
  generalize begun : (if resyncScope s = .full then beginFull _ else _) = t
  have begunWorking : Working t := by
    have opened : Working (if s.stream.mode = .resync then
        { s with stream := { s.stream with epoch := s.stream.epoch + 1#16, isOpen := true } }
        else { s with
          stream := { s.stream with epoch := s.stream.epoch + 1#16, isOpen := true }
          list := closeWrite s.list }) := by
      split
      · exact h
      · exact h.of (closeWrite_ok h.list) h.dirty h.taken
    rw [← begun]
    split
    · exact beginFull_working opened
    · exact opened
  exact begunWorking.of begunWorking.list begunWorking.dirty rfl

theorem spillCore_working (h : Working s) : Working (spillCore s) := by
  unfold spillCore
  refine raise_working _ (discard_working _ ?_)
  have marked := dirtyWf_spillMarks h.dirty h.taken
  dsimp only
  split
  · exact h.of h.list marked rfl
  · exact h.of h.list marked rfl

theorem resyncAfterSpill_working (h : Working s) : Working (resyncAfterSpill s) := by
  unfold resyncAfterSpill
  split
  · exact resyncStart_working h
  · exact h

theorem spill_working (h : Working s) : Working (spill s) := resyncAfterSpill_working (spillCore_working h)

theorem resyncComplete_working (h : Working s) : Working (resyncComplete s) :=
  raise_working _ (h.of (closeWrite_ok h.list) h.dirty rfl)

theorem resyncAbandon_working (h : Working s) : Working (resyncAbandon s) := by
  refine raise_working _ (h.of (closeWrite_ok (abandonSync_ok h.list)) ?_ rfl)
  change dirtyWf (if s.walker.taken then markBlock s.walker.cursor s.dirty else s.dirty) = true
  split
  case isTrue taken =>
    exact dirtyWf_markBlock (by simpa [takenInside, taken] using h.taken) h.dirty
  case isFalse => exact h.dirty

/-! ### Command results -/

/-- A command that has ended is no HANDOVER in progress (R178). -/
theorem endCommand_steady {state : CmdState} (reason : Reason) (detail : Detail) (ended : state ≠ .inProgress)
    (h : Orderly s) : Steady (endCommand state reason detail s) := by
  refine raise_steady (by decide) ⟨h, ?_⟩
  simp [handoverIsActive, handoverRunning, ended]

theorem handoverCancel_working (reason : Reason) (h : Working s) : Working (handoverCancel reason s) :=
  raise_working _ (h.of (dropHandover_ok h.list) h.dirty h.taken)

/-! ### Changes of role -/

/-- What a unit has of an ACTIVE one's list, map and walker once its role has changed: nothing (R74, R75). -/
theorem changeRole_empty (h : Orderly s) (new : Role) :
    (changeRole new s).list.records = [] ∧ (changeRole new s).list.reserved = false
    ∧ (changeRole new s).list.waitingMarker = none ∧ (changeRole new s).dirty = []
    ∧ (changeRole new s).walker.run = .stopped ∧ (changeRole new s).walker.taken = false
    ∧ (changeRole new s).walker.autoRequest = false := by
  by_cases active : s.pair.role = .active
  · obtain ⟨records, reserved, marker, dirty, walker, -⟩ := changeRole_of_active s new active
    simp [records, reserved, marker, dirty, walker, retiredWalker]
  · obtain ⟨records, reserved, marker, dirty, -, -, -, run, taken, auto⟩ := h.inactive active
    obtain ⟨reserved', marker', dirty', walker'⟩ := changeRole_of_inactive s new active (by simp [run])
    simp [changeRole_records s new records, reserved', marker', dirty', walker', reserved, marker, dirty, run, taken,
      auto]

theorem changeRole_orderly (h : Orderly s) {new : Role}
    (ready : new = .none ∨ (s.phase = .running ∧ s.loader.state ≠ .loading)) : Orderly (changeRole new s) := by
  obtain ⟨records, reserved, marker, dirty, run, taken, auto⟩ := changeRole_empty h new
  refine ⟨listOk_of_empty records, ?_, ?_, ?_, ?_, ?_, ?_, ?_, ?_⟩
  · simp [inactiveEmpty, records, reserved, marker, dirty, run, taken, auto]
  · have ack : (changeRole new s).tx.ackRequest = .none := by
      rw [changeRole_ackRequest]
      split
      · rfl
      · exact (h.notStandby ‹_›).2.2.2.2.2
    simp only [standbyOnly, ack, changeRole_apply]
    simp [ApplyEngine.reset]
  · rcases ready with rfl | ⟨-, loader⟩ <;> simp [loadingIsNone, *]
  · rcases ready with rfl | ⟨phase, -⟩ <;> simp [resetIsNone, *]
  · cases bus : s.mem.bus with
    | none => simp [walkerReadIsActive, withdrawn, bus]
    | some txn => cases txn <;> simp [walkerReadIsActive, withdrawn, bus]
  · simp [dirty, dirtyWf, rising]
  · simp [takenInside, taken]
  · rw [changeRole_rx]
    exact h.rx

theorem changeRole_steady (h : Steady s) {new : Role}
    (ready : new = .none ∨ (s.phase = .running ∧ s.loader.state ≠ .loading))
    (free : new = .active ∨ handoverRunning s = false) : Steady (changeRole new s) := by
  refine ⟨changeRole_orderly h.orderly ready, ?_⟩
  rcases free with rfl | none
  · simp [handoverIsActive]
  · have : handoverRunning (changeRole new s) = false := by simpa [handoverRunning] using none
    simp [handoverIsActive, this]

/-- A unit with a handover pending is a STANDBY that takes the role ACTIVE (R93, R108). -/
theorem takeHandoverRole_steady (h : Steady s) : Steady (takeHandoverRole s) := by
  unfold takeHandoverRole
  split
  case h_2 => exact h
  case h_1 epoch seq pending =>
    have role : s.pair.role = .standby := by
      by_contra role
      simp [(h.orderly.notStandby role).2.2.2.1] at pending
    have taken := changeRole_steady h (new := .active) (.inr (h.orderly.ready (by simp [role]))) (.inl rfl)
    have working := taken.working (changeRole_role s .active)
    refine Working.steady (working.of (listOk_of_empty ?_) working.dirty working.taken)
    exact (changeRole_empty h.orderly .active).1

/-- The epoch counter is free to take any value. -/
theorem steady_epoch (epoch : Half) (h : Steady s) : Steady { s with stream := { s.stream with epoch := epoch } } := h

theorem promote_steady (h : Steady s) (role : s.pair.role = .standby) : Steady (promote s) :=
  changeRole_steady (steady_epoch _ h) (.inr (h.orderly.ready (by simp [role]))) (.inl rfl)

theorem handoverComplete_steady (outcome : Detail) (epoch seq : Half) (h : Working s) :
    Steady (handoverComplete outcome epoch seq s) := by
  have changed : Orderly (changeRole .standby s) :=
    changeRole_orderly h.steady.orderly (.inr ⟨h.2.1, h.2.2.1⟩)
  refine endCommand_steady _ _ (by decide) ?_
  obtain ⟨list, empty, -, rest⟩ := changed
  exact ⟨list, by simpa [inactiveEmpty] using empty, by simp [standbyOnly], rest⟩

/-! ### Leaving UP -/

theorem leaveUpCore_steady (new : LinkState) (h : Steady s) : Steady (leaveUpCore new s) := by
  unfold leaveUpCore
  split
  · exact failConfirmWait_steady (pauseWalker_steady (s := quieted s) h)
  · exact h

theorem handoverOffUp_steady (h : Steady s) : Steady (handoverOffUp s) := by
  unfold handoverOffUp
  split
  case isFalse => exact h
  case isTrue running =>
    have working := h.working (h.active_of_handover running)
    split
    · exact handoverComplete_steady _ _ _ working
    · exact (handoverCancel_working _ working).steady

theorem leaveUp_steady (new : LinkState) (h : Steady s) : Steady (leaveUp new s) := by
  unfold leaveUp
  split
  · exact handoverOffUp_steady (takeHandoverRole_steady (leaveUpCore_steady new h))
  · exact h

theorem loseLink_steady (h : Steady s) : Steady (loseLink s) := raise_steady (by decide) (leaveUp_steady _ h)

/-! ### Answers of the partner -/

theorem working_of_takesAcks (h : Steady s) (takes : takesAcks s = true) : Working s := by
  simp only [takesAcks, Bool.and_eq_true, beq_iff_eq] at takes
  exact h.working takes.1.1

theorem reportEnd_working (removed : List Rec) (h : Working s) : Working (reportEnd removed s) := by
  unfold reportEnd
  split
  · exact resyncComplete_working h
  · exact h

theorem reportHandover_steady (removed : List Rec) (h : Working s) : Steady (reportHandover removed s) := by
  unfold reportHandover
  split
  · split
    · exact handoverComplete_steady _ _ _ h
    · exact h.steady
  · exact h.steady

theorem removeBehind_steady (n : Half) (h : Working s) : Steady (removeBehind n s) := by
  unfold removeBehind
  refine reportHandover_steady _ (reportEnd_working _ ?_)
  have trimmed : ListOk s.cfg.window (trimmedList s (s.list.records.takeWhile fun r => behind r.seq n)
      (s.list.records.dropWhile fun r => behind r.seq n)) := trimmedList_ok h.list _ (List.dropWhile_suffix _)
  split
  · exact h.of (clearWaiters_ok trimmed) h.dirty h.taken
  · exact h.of trimmed h.dirty h.taken

theorem returnSent_steady (h : Steady s) : Steady (returnSent s) := steady_mapRecords h (unsend_ok h.orderly.list)

theorem takeAck_steady (n : Half) (h : Steady s) : Steady (takeAck n s) := by
  unfold takeAck
  split
  case isFalse => exact h
  case isTrue takes =>
    split
    · exact h
    · split
      · exact removeBehind_steady n (working_of_takesAcks h takes)
      · exact leaveUp_steady _ h

theorem takeNak_steady (n : Half) (h : Steady s) : Steady (takeNak n s) := by
  unfold takeNak
  split
  case isFalse => exact h
  case isTrue takes =>
    split
    · exact h
    · split
      · exact h
      · split
        · exact returnSent_steady (removeBehind_steady n (working_of_takesAcks h takes))
        · exact leaveUp_steady _ h

/-! ### Entering UP -/

theorem cancelPromote_steady (h : Steady s) : Steady (cancelPromote s) := by
  rw [cancelPromote_eq]
  exact h

theorem resumeDecision_steady (h : Working s) : Steady (resumeDecision s) := by
  unfold resumeDecision
  split
  · exact resumeWalker_steady (returnSent_steady (removeBehind_steady _ h))
  · exact (resyncStart_working h).steady

theorem enterUp_steady (h : Steady s) : Steady (enterUp s) := by
  unfold enterUp
  refine raise_steady (by decide) ?_
  have c := cancelPromote_steady h
  dsimp only
  split
  case isTrue decides =>
    simp only [Bool.and_eq_true, beq_iff_eq] at decides
    have working := c.working decides.1
    exact resumeDecision_steady working
  case isFalse => exact c

theorem checkHandshake_steady (digest : Half) (role : Role) (h : Steady s) :
    Steady (checkHandshake digest role s) := by
  unfold checkHandshake
  split
  · split
    · exact h
    · exact raise_steady (by decide) h
  · split
    · exact h
    · exact raise_steady (by decide) h
  · exact enterUp_steady h

/-! ### Link enable -/

theorem clearedRx_wf (receiver : Receiver) (rx : LinkRx) : rxWf (clearedRx receiver rx) = true := by
  simp [clearedRx, rxWf]

/-- A receiver in order may take the place of another. -/
theorem steady_rx {rx : LinkRx} (wf : rxWf rx = true) (h : Steady s) : Steady { s with rx := rx } := by
  obtain ⟨⟨list, empty, standby, loading, reset, reads, dirty, taken, -⟩, handover⟩ := h
  exact ⟨⟨list, empty, standby, loading, reset, reads, dirty, taken, wf⟩, handover⟩

/-- An acknowledgement request may be withdrawn on any unit (R67). -/
theorem steady_noAck {tx : LinkTx} (none : tx.ackRequest = .none) (h : Steady s) : Steady { s with tx := tx } := by
  obtain ⟨⟨list, empty, standby, rest⟩, handover⟩ := h
  refine ⟨⟨list, empty, ?_, rest⟩, handover⟩
  simp only [standbyOnly, Bool.or_eq_true, Bool.and_eq_true] at standby ⊢
  exact standby.imp id fun ⟨rest, _⟩ => ⟨rest, by simp [none]⟩

theorem disableLink_steady (h : Steady s) : Steady (disableLink s) := by
  have off : Steady (linkOff { s with tx := { s.tx with serializer := cutOff s.tx.serializer } }) := by
    unfold linkOff
    split
    · exact leaveUp_steady _ h
    · exact h
  unfold disableLink
  have taken := takeHandoverRole_steady off
  generalize takeHandoverRole _ = t at taken
  have cleared := steady_rx (clearedRx_wf .notWatching t.rx) taken
  exact steady_noAck (tx := { t.tx with helloDue := false, ackRequest := .none, pulseDue := false, pulseTimer := none })
    rfl cleared

theorem enableLink_steady (h : Steady s) : Steady (enableLink s) := by
  unfold enableLink
  exact steady_rx (s := enterLink .down s) (clearedRx_wf .hunting s.rx) h

theorem followLinkControl_steady (oldEnable : Bool) (oldRate : LinkRate) (h : Steady s) :
    Steady (followLinkControl oldEnable oldRate s) := by
  unfold followLinkControl
  split
  · exact enableLink_steady h
  · exact disableLink_steady h
  · split
    · exact h
    · exact enableLink_steady (disableLink_steady h)
  · exact h

end

end Sys2Proof.Machine
end

section
/-! PROOFS. The invariant of `Safety.sound` at the host path and at the end of a step: classification, holds, the
scheduler, write capture. -/

namespace Sys2Proof.Machine

open Sys2Proof.Safety

section
variable {s : State}

/-! ### Classification and holds (R13, R40, R140, R144, R146) -/

theorem freeEntry_iff {l : ReplayList} : freeEntry l = true ↔ occupancy l < 64 := decide_eq_true_iff

theorem reserveAndForward_steady (req : HostReq) (cls : HostClass) (active : s.pair.role = .active)
    (free : freeEntry s.list = true) (h : Steady s) : Steady (reserveAndForward req cls s) := by
  have working := h.working active
  exact Working.steady (working.of (RecordsOk.reserve working.list (freeEntry_iff.mp free)) working.dirty working.taken)

theorem askReservation_steady (req : HostReq) (counted : Bool) (active : s.pair.role = .active) (h : Steady s) :
    Steady (askReservation req counted s) := by
  unfold askReservation
  split
  · exact reserveAndForward_steady req _ active ‹_› h
  · split
    · exact h
    · exact (spill_working (h.working active)).steady

theorem acceptMirrored_steady (req : HostReq) (counted : Bool) (active : s.pair.role = .active) (h : Steady s) :
    Steady (acceptMirrored req counted s) := by
  unfold acceptMirrored
  split
  · exact h
  · exact h
  · exact askReservation_steady req counted active h
  · exact askReservation_steady req counted active h
  · exact h

theorem refuse_steady (req : HostReq) (h : Steady s) : Steady (refuse req s) := by
  have raised : Steady (raise .guardHit { s with host := { s.host with lastGuardAddr := req.addr } }) :=
    raise_steady (by decide) h
  exact raised

theorem acceptRequest_steady (req : HostReq) (counted : Bool) (h : Steady s) :
    Steady (acceptRequest req counted s) := by
  unfold acceptRequest
  split
  · exact h
  · exact h
  · split
    · exact refuse_steady req h
    · exact h
  next active =>
    split
    · exact acceptMirrored_steady req counted active h
    · exact h

/-- Only an ACTIVE unit holds a write that it accepts (R140, R144). -/
theorem acceptRequest_held (req : HostReq) (counted : Bool) : heldIsActive (acceptRequest req counted s) = true := by
  by_cases active : s.pair.role = .active
  · unfold heldIsActive
    split <;> simp [active]
  · unfold acceptRequest
    split
    · rfl
    · rfl
    · split <;> rfl
    · contradiction

theorem reclassify_steady (req : HostReq) (counted : Bool) (h : Steady s) : Steady (reclassify req counted s) :=
  acceptRequest_steady (s := { s with list := { s.list with holdTimer := none } }) req counted h

theorem settleHold_steady (h : Steady s) : Steady (settleHold s) := by
  unfold settleHold
  split
  · split
    case isTrue flowing =>
      simp only [Bool.and_eq_true, beq_iff_eq] at flowing
      split
      · exact h
      · exact reclassify_steady _ _ (spill_working (h.working flowing.1)).steady
    case isFalse => exact reclassify_steady _ _ h
  · split
    · exact h
    · exact reclassify_steady _ _ h
  · exact h

/-- However a step leaves it, a held write is settled as the role has it (R144, R146). -/
theorem settleHold_held : heldIsActive (settleHold s) = true := by
  unfold settleHold
  split
  case h_1 =>
    split
    case isTrue flowing =>
      simp only [Bool.and_eq_true, beq_iff_eq] at flowing
      split
      · simp [heldIsActive, *]
      · exact acceptRequest_held _ _
    case isFalse => exact acceptRequest_held _ _
  case h_2 =>
    split
    case isTrue draining =>
      simp only [Bool.and_eq_true, beq_iff_eq] at draining
      simp [heldIsActive, *]
    case isFalse => exact acceptRequest_held _ _
  case h_3 noList noDrain =>
    unfold heldIsActive
    split
    next hold req cls counted port => cases hold <;> simp_all
    next => rfl

/-! ### The scheduler (R64) -/

theorem startRecord_steady {r : Rec} (offered : offeredRecord s = some r) (h : Steady s) :
    Steady (startRecord r s) := by
  unfold offeredRecord at offered
  split at offered
  case isFalse => cases offered
  case isTrue offers =>
    simp only [offersRecords, Bool.and_eq_true, decide_eq_true_eq] at offers
    obtain ⟨⟨takes, -⟩, room⟩ := offers
    have working := working_of_takesAcks h takes
    have found := (Option.filter_eq_some_iff.mp offered).1
    refine Working.steady ?_
    exact working.of (sendFirst_ok working.list room found) working.dirty working.taken rfl rfl rfl rfl rfl rfl

theorem startAck_steady (h : Steady s) : Steady (startAck s) := by
  unfold startAck
  refine takeHandoverRole_steady (steady_noAck ?_ h)
  rfl

theorem schedule_steady (h : Steady s) : Steady (schedule s) := by
  rcases schedule_cases s with ⟨-, e⟩ | ⟨-, -, e⟩ | ⟨-, -, -, e⟩ | ⟨-, -, -, r, offered, e⟩ | ⟨-, -, -, -, -, e⟩
    | ⟨-, -, e⟩ <;> rw [e]
  · exact h
  · exact h
  · exact startAck_steady h
  · exact startRecord_steady offered h
  · exact h
  · exact h

/-- A unit that takes its role at a handover is ACTIVE (R93). -/
theorem takeHandoverRole_held (h : heldIsActive s = true) : heldIsActive (takeHandoverRole s) = true := by
  unfold takeHandoverRole
  split
  · unfold heldIsActive
    split <;> simp
  · exact h

/-- The scheduler makes a unit ACTIVE at most, and holds no write (R93). -/
theorem schedule_held (h : heldIsActive s = true) : heldIsActive (schedule s) = true := by
  rcases schedule_cases s with ⟨-, e⟩ | ⟨-, -, e⟩ | ⟨-, -, -, e⟩ | ⟨-, -, -, r, offered, e⟩ | ⟨-, -, -, -, -, e⟩
    | ⟨-, -, e⟩ <;> rw [e]
  · exact h
  · exact h
  · exact takeHandoverRole_held h
  · exact h
  · exact h
  · exact h

/-- The end of a step settles a held write and starts a frame, on any steady unit. -/
theorem finish_kept (h : Steady s) : Kept (finish s) :=
  ⟨schedule_steady (settleHold_steady h), schedule_held settleHold_held⟩

/-! ### Write capture (R11 to R21) -/

theorem dropReservation_steady (h : Steady s) : Steady (dropReservation s) := by
  obtain ⟨⟨list, empty, rest⟩, handover⟩ := h
  refine ⟨⟨list.unreserve, ?_, rest⟩, handover⟩
  simp only [inactiveEmpty, dropReservation, Bool.or_eq_true, Bool.and_eq_true] at empty ⊢
  tauto

theorem answerUnconfirmed_steady (cls : HostClass) (condemned : Bool) (h : Steady s) :
    Steady (answerUnconfirmed cls condemned s) := by
  unfold answerUnconfirmed
  split
  · split
    · exact h
    · exact raise_steady (by decide) h
  · exact h

theorem markWrite_working (req : HostReq) (h : Working s) : Working (markWrite req s) :=
  h.dirtied (dirtyWf_markBlock (blockOf_lt req.addr) h.dirty)

theorem openOrClose_working (closes : Bool) (h : Working s) : Working (openOrClose closes s) := by
  unfold openOrClose
  split
  · exact h.of (closeWrite_ok h.list) h.dirty h.taken
  · exact h

/-- A write's word at the end of the record it joins (R18). -/
theorem joinWrite_working (req : HostReq) (region : BitVec 4) (h : Working s) : Working (joinWrite req region s) := by
  unfold joinWrite
  refine openOrClose_working _ (h.of ?_ h.dirty h.taken)
  have appended (b : RecordBody) : isWrite (appendWord (wordOfWrite req) b) = isWrite b
      ∧ isSync (appendWord (wordOfWrite req) b) = isSync b := by
    rcases b with ⟨⟨⟩, _, _, _⟩ | _ | _ | _ <;> exact ⟨rfl, rfl⟩
  refine (h.list.map (fun r => ?_) (fun r => ?_) (fun r => ?_) (.inl fun r => ?_)).unreserve <;> split <;>
    simp_all [isOpenWrite, isOpenSync, isSent]

/-- An entry the write holds, or a free one, takes the record that it forms (R14, R19, R21). -/
theorem room_of_entry (h : ListOk s.cfg.window s.list) (entry : (s.list.reserved || freeEntry s.list) = true) :
    s.list.records.length < 64 := by
  have := h.entries
  simp only [Bool.or_eq_true, freeEntry_iff, occupancy] at entry
  rcases entry with reserved | free
  · simp [reserved] at this
    omega
  · omega

theorem openWrite_working (req : HostReq) (region : BitVec 4) (entry : (s.list.reserved || freeEntry s.list) = true)
    (h : Working s) : Working (openWrite req region s) := by
  unfold openWrite
  refine openOrClose_working _ (h.of ?_ h.dirty h.taken)
  refine RecordsOk.append (closeWrite_ok h.list).unreserve ?_ rfl rfl (fun _ => closeWrite_noOpenWrite _) ?_
  · simpa [closeWrite] using room_of_entry h.list entry
  · simp [isOpenSync, isSync, writeBody]

theorem captureConfirm_working (req : HostReq) (cls : HostClass) (region : BitVec 4) (condemned : Bool)
    (entry : (s.list.reserved || freeEntry s.list) = true) (h : Working s) :
    Steady (captureConfirm req cls region condemned s) := by
  unfold captureConfirm
  have recorded (waiter : Bool) : 
      let t := dropReservation { s with list := closeWrite s.list }
      Working { t with list := addRecord (writeBody req region) .pending waiter t.list } := by
    have closed : ListOk s.cfg.window (dropReservation { s with list := closeWrite s.list }).list :=
      (closeWrite_ok h.list).unreserve
    refine h.of (addRecord_pending_ok closed _ _ ?_) h.dirty h.taken
    simpa [closeWrite, dropReservation, occupancy] using room_of_entry h.list entry
  dsimp only
  split
  · exact (recorded _).steady
  · exact answerUnconfirmed_steady _ _ (recorded _).steady

theorem captureBySpill_steady (req : HostReq) (cls : HostClass) (condemned : Bool) (h : Working s) :
    Steady (captureBySpill req cls condemned s) :=
  answerUnconfirmed_steady _ _ (resyncAfterSpill_working (markWrite_working req (spillCore_working h))).steady

theorem capture_steady (req : HostReq) (cls : HostClass) (condemned : Bool) (h : Working s) :
    Steady (capture req cls condemned s) := by
  unfold capture
  dsimp only
  split
  · split
    · exact captureConfirm_working _ _ _ _ ‹_› h
    · exact captureBySpill_steady _ _ _ h
  · split
    · exact (joinWrite_working _ _ h).steady
    · split
      · exact (openWrite_working _ _ ‹_› h).steady
      · exact captureBySpill_steady _ _ _ h

theorem captureAnswer_steady (req : HostReq) (cls : HostClass) (condemned : Bool) (h : Steady s) :
    Steady (captureAnswer req cls condemned s) := by
  unfold captureAnswer
  split
  case isTrue active =>
    have dropped := dropReservation_steady h
    have captured := capture_steady req cls condemned (h.working active)
    split
    · exact answerUnconfirmed_steady _ _ dropped
    · exact answerUnconfirmed_steady _ _ (markWrite_working req (dropped.working active)).steady
    · split
      · exact dropped
      · exact captured
    · exact captured
    · exact captured
  case isFalse => exact answerUnconfirmed_steady _ _ (dropReservation_steady h)

theorem hostAnswer_steady (answer : MemAnswer) (req : HostReq) (cls : HostClass) (condemned : Bool) (h : Steady s) :
    Steady (hostAnswer answer req cls condemned s) := by
  unfold hostAnswer
  split
  · split
    · exact captureAnswer_steady _ _ _ h
    · have dropped := dropReservation_steady h
      exact dropped
  · exact h

end

end Sys2Proof.Machine
end

section
/-! PROOFS. The invariant of `Safety.sound` at the mirror link, in the pairing controller, the apply engine and the
walker. -/

namespace Sys2Proof.Machine

open Sys2Proof.Safety

section
variable {s : State}

/-! ### Parts of the state that some units may change freely -/

/-- A memory port whose walker reads are an ACTIVE unit's may take the place of another (R124, R153). -/
theorem steady_mem {m : MemPort} (reads : walkerReadIsActive { s with mem := m } = true) (h : Steady s) :
    Steady { s with mem := m } := by
  obtain ⟨⟨list, empty, standby, loading, reset, -, rest⟩, handover⟩ := h
  exact ⟨⟨list, empty, standby, loading, reset, reads, rest⟩, handover⟩

/-- The standby state and the acknowledgement request are a STANDBY unit's own (R67, R98). -/
theorem steady_ofStandby {a : ApplyEngine} {request : AckRequest} (role : s.pair.role = .standby) (h : Steady s) :
    Steady { s with apply := a, tx := { s.tx with ackRequest := request } } := by
  obtain ⟨⟨list, empty, -, rest⟩, handover⟩ := h
  exact ⟨⟨list, empty, by simp [standbyOnly, role], rest⟩, handover⟩

/-- A withdrawal leaves no walker read that counts (R153). -/
theorem withdrawInternal_steady (h : Steady s) : Steady (withdrawInternal s) := by
  refine steady_mem ?_ h
  rcases s.mem.bus with _ | _ | _ <;> simp [walkerReadIsActive]

theorem freeBus_steady (h : Steady s) : Steady (freeBus s) := by
  refine steady_mem ?_ h
  have := h.orderly.reads
  simp only [walkerReadIsActive, Bool.or_eq_true, Bool.and_eq_true] at this ⊢
  exact this.imp id fun ⟨waiting, _⟩ => ⟨waiting, trivial⟩

/-- A request is asked for that no walker makes, or by an ACTIVE unit (R151). -/
theorem askInternal_steady {op : InternalOp} (own : s.pair.role = .active ∨ ∀ a, op ≠ .walkerRead a) (h : Steady s) :
    Steady (askInternal op s) := by
  refine steady_mem ?_ h
  rcases requested_cases op s.mem with ⟨-, e⟩ | ⟨-, e⟩
  · rw [e]
    exact h.orderly.reads
  · rw [e]
    have := h.orderly.reads
    simp only [walkerReadIsActive, Bool.or_eq_true, Bool.and_eq_true] at this ⊢
    rcases own with active | other
    · simp [active]
    · refine this.imp id fun ⟨_, bus⟩ => ⟨?_, bus⟩
      cases op with
      | walkerRead a => exact absurd rfl (other a)
      | applyWrite _ _ _ => rfl

/-- The answer of a disowned transaction is discarded; the requester of the role asks (R151, R153). -/
theorem discardAnswer_steady (h : Steady s) : Steady (discardAnswer s) := by
  unfold discardAnswer askAgain
  have freed := freeBus_steady h
  cases needed : neededOp (freeBus s) with
  | none => exact freed
  | some op =>
    refine askInternal_steady ?_ freed
    unfold neededOp at needed
    split at needed
    next =>
      simp only [Option.bind_eq_some_iff, Option.map_eq_some_iff] at needed
      obtain ⟨held, -, w, -, rfl⟩ := needed
      exact .inr fun a => by simp [wordWrite]
    next active => exact .inl active
    next => cases needed

/-! ### The receiver (R52 to R62) -/

theorem badFrame_steady {next : Assembler} (wf : rxWf { s.rx with assembler := next } = true) (h : Steady s) :
    Steady (badFrame next s) :=
  raise_steady (by decide)
    (steady_rx (rx := { s.rx with assembler := next, badFrames := countUp s.rx.badFrames }) wf h)

/-- The receive buffer of a receiver in order holds at most four frames (R62). -/
theorem rxWf_buffer {rx : LinkRx} (wf : rxWf rx = true) : rx.buffer.length ≤ 4 := by
  simp only [rxWf, Bool.and_eq_true] at wf
  exact of_decide_eq_true wf.1

/-- A receiver with its buffer in order that collects no frame (R58). -/
theorem rxWf_of_idle {rx : LinkRx} (buffer : rx.buffer.length ≤ 4) (idle : ∀ t data crc, rx.assembler ≠ .inFrame t data crc) :
    rxWf rx = true := by
  rw [rxWf, Bool.and_eq_true]
  refine ⟨decide_eq_true buffer, ?_⟩
  split
  next t data crc collects => exact absurd collects (idle t data crc)
  next => rfl

/-- A frame begins with its type code alone in its CRC (R58). -/
theorem rxWf_beginFrame {rx : LinkRx} (buffer : rx.buffer.length ≤ 4) (t : FrameType) :
    rxWf { rx with assembler := beginFrame t } = true := by
  simp only [rxWf, Bool.and_eq_true]
  exact ⟨decide_eq_true buffer, by simp [beginFrame]⟩

theorem collect_steady {t : FrameType} {data : List Byte} {crc : Half} (b : Byte)
    (frame : s.rx.assembler = .inFrame t data crc) (h : Steady s) : Steady (collect t data crc b s) := by
  have buffer := rxWf_buffer h.orderly.rx
  unfold collect
  split
  case isTrue short =>
    refine steady_rx ?_ h
    have wf := h.orderly.rx
    simp only [rxWf, frame, Bool.and_eq_true, beq_iff_eq] at wf ⊢
    refine ⟨wf.1, decide_eq_true ?_, ?_⟩
    · simpa using short
    · simp [wf.2.2, crc16, crcFeed, List.foldl_append]
  case isFalse => exact badFrame_steady (rxWf_of_idle buffer (by simp)) h

theorem placeFrame_steady (f : Frame) (h : Steady s) : Steady (placeFrame f s) := by
  have buffer := rxWf_buffer h.orderly.rx
  unfold placeFrame
  split
  case isTrue room =>
    have placed : rxWf { s.rx with assembler := .hunt, buffer := s.rx.buffer ++ [f] } = true :=
      rxWf_of_idle (by rw [List.length_append]; exact Nat.succ_le_of_lt room) (by simp)
    exact steady_rx placed h
  case isFalse => exact steady_rx (rxWf_of_idle buffer (by simp)) h

theorem assembleInFrame_steady {t : FrameType} {data : List Byte} {crc : Half} (sym : RxSymbol)
    (frame : s.rx.assembler = .inFrame t data crc) (h : Steady s) : Steady (assembleInFrame t data crc sym s) := by
  have buffer := rxWf_buffer h.orderly.rx
  cases sym with
  | data b => exact collect_steady b frame h
  | sof t' => exact badFrame_steady (rxWf_beginFrame buffer t') h
  | eof =>
    change Steady (judgeFrame t data crc s)
    unfold judgeFrame
    split
    · exact placeFrame_steady _ h
    · exact badFrame_steady (rxWf_of_idle buffer (by simp)) h
  | abort =>
    exact steady_rx (rx := { s.rx with assembler := .hunt }) (rxWf_of_idle buffer (by simp)) h
  | error => exact badFrame_steady (rxWf_of_idle buffer (by simp)) h

theorem assemble_steady (sym : RxSymbol) (h : Steady s) : Steady (assemble sym s) := by
  have buffer := rxWf_buffer h.orderly.rx
  have hunting : Steady (setAssembler .hunt s) := steady_rx (rxWf_of_idle buffer (by simp)) h
  have begun (t : FrameType) : Steady (setAssembler (beginFrame t) s) := steady_rx (rxWf_beginFrame buffer t) h
  unfold assemble
  split
  · exact assembleInFrame_steady _ ‹_› h
  · exact begun _
  · exact h
  · exact begun _
  · exact hunting
  · exact hunting
  · exact h

theorem takeCharacter_steady (bits : BitVec 12) (h : Steady s) : Steady (takeCharacter bits s) := by
  unfold takeCharacter
  split
  · refine assemble_steady _ (raise_steady (by decide) ?_)
    exact steady_rx (rx := { s.rx with charErrors := _, receiver := _ }) h.orderly.rx h
  · exact assemble_steady _ h

theorem dropOldest_steady (h : Steady s) : Steady (dropOldest s) := by
  refine steady_rx ?_ h
  have wf := h.orderly.rx
  simp only [rxWf, Bool.and_eq_true] at wf ⊢
  refine ⟨decide_eq_true ?_, wf.2⟩
  have := of_decide_eq_true wf.1
  simp
  omega

/-! ### HELLO and PULSE (R78, R80, R83, R84, R92) -/

theorem setPartner_steady (v : PartnerView) (h : Steady s) : Steady (setPartner v s) := by
  unfold setPartner
  have viewed : Steady { s with pair := { s.pair with partner := v } } := h
  dsimp only
  split
  · exact viewed
  · exact pauseWalker_steady viewed

theorem judgeFall_steady (old : PartnerView) (role : Role) (c : Consistency) (h : Steady s) :
    Steady (judgeFall old role c s) := by
  unfold judgeFall
  split
  case isTrue fall =>
    obtain ⟨-, -, -, -, takes⟩ := fall
    exact (raise_working _ (working_of_takesAcks h takes)).steady
  case isFalse => exact h

theorem completeByHello_steady (hello : Hello) (h : Steady s) : Steady (completeByHello hello s) := by
  unfold completeByHello
  split
  · split
    case isTrue completes => exact handoverComplete_steady _ _ _ (h.working (h.active_of_handover completes.1))
    case isFalse => exact h
  · exact h

theorem abandonHeld_steady (role : s.pair.role = .standby) (h : Steady s) : Steady (abandonHeld s) := by
  unfold abandonHeld
  split
  · exact withdrawInternal_steady (steady_ofStandby (request := s.tx.ackRequest) role h)
  · exact h

theorem staleGuard_steady (hello : Hello) (h : Steady s) : Steady (staleGuard hello s) := by
  unfold staleGuard
  split
  case isTrue stale =>
    have role : (abandonHeld s).pair.role = .standby := by
      unfold abandonHeld
      split <;> exact stale.1
    exact steady_ofStandby (request := (abandonHeld s).tx.ackRequest) role (abandonHeld_steady stale.1 h)
  case isFalse => exact h

theorem helloEffect_steady (found : LinkState) (hello : Hello) (h : Steady s) :
    Steady (helloEffect found hello s) := by
  cases found with
  | off => exact h
  | down => exact h
  | handshake =>
    unfold helloEffect
    dsimp only
    split
    · exact checkHandshake_steady _ _ h
    · exact h
  | up => exact leaveUp_steady _ h
  | conflict =>
    unfold helloEffect
    dsimp only
    split
    · exact checkHandshake_steady _ _ h
    · exact h
  | mismatch =>
    unfold helloEffect
    dsimp only
    split
    · exact checkHandshake_steady _ _ h
    · exact h

theorem takeHello_steady (hello : Hello) (h : Steady s) : Steady (takeHello hello s) :=
  judgeFall_steady _ _ _ (helloEffect_steady _ _
    (staleGuard_steady _ (setPartner_steady _ (completeByHello_steady _ h))))

theorem pulseEffect_steady (found : LinkState) (p : Pulse) (h : Steady s) : Steady (pulseEffect found p s) := by
  unfold pulseEffect
  split
  · unfold pulseInHandshake
    split
    · exact enterUp_steady h
    · exact h
  · unfold pulseAsAck
    split
    · exact takeAck_steady _ h
    · exact h
  · exact h

theorem takePulse_steady (p : Pulse) (h : Steady s) : Steady (takePulse p s) :=
  judgeFall_steady _ _ _ (pulseEffect_steady _ _ (setPartner_steady _ h))

/-! ### Expiries of the pairing controller (R38, R82, R89, R91) -/

theorem retryExpired_steady (h : Steady s) : Steady (retryExpired s) := by
  have returned : Steady { s with list := { s.list with
      records := unsend s.list.records, retryTimer := none, retryCount := s.list.retryCount + 1 } } :=
    returnSent_steady h
  unfold retryExpired
  dsimp only
  split
  · exact returned
  · exact loseLink_steady returned

theorem promoteExpired_steady (h : Steady s) : Steady (promoteExpired s) := by
  unfold promoteExpired
  dsimp only
  split
  case isTrue promotes => exact promote_steady (s := { s with pair := _, events := _ }) h promotes.1
  case isFalse => exact h

theorem appendHandover_working (empty : occupancy s.list = 0) (h : Working s) : Working (appendHandover s) :=
  h.of (addRecord_pending_ok h.list _ _ (by omega)) h.dirty h.taken rfl rfl rfl rfl rfl rfl

/-! ### The apply engine (R99 to R108) -/

theorem askAck_steady (role : s.pair.role = .standby) (h : Steady s) : Steady (askAck s) := by
  rw [askAck_eq]
  exact steady_ofStandby role h

theorem recordApplied_steady (role : s.pair.role = .standby) (h : Steady s) : Steady (recordApplied s) :=
  askAck_steady (s := { s with apply := _ }) role (steady_ofStandby (request := s.tx.ackRequest) role h)

@[simp] theorem recordApplied_pair : (recordApplied s).pair = s.pair := by simp [recordApplied, askAck_eq]

/-- The standby state of a STANDBY unit. -/
theorem steady_apply {a : ApplyEngine} (role : s.pair.role = .standby) (h : Steady s) : Steady { s with apply := a } :=
  steady_ofStandby (request := s.tx.ackRequest) role h

theorem applyFault_steady (cause : FaultCause) (seq : Half) (addr : WordAddr) (role : s.pair.role = .standby)
    (h : Steady s) : Steady (applyFault cause seq addr s) :=
  raise_steady (by decide) (steady_apply (by simpa using role) (recordApplied_steady role h))

theorem issueWord_steady (held : HeldRecord) (role : s.pair.role = .standby) (h : Steady s) :
    Steady (issueWord held s) := by
  unfold issueWord
  split
  · exact askInternal_steady (.inr fun a => by simp [wordWrite]) (steady_apply role h)
  · exact recordApplied_steady role h

theorem applyHandover_steady (seq epoch : Half) (role : s.pair.role = .standby) (h : Steady s) :
    Steady (applyHandover seq epoch s) := by
  have pending (t : State) (role : t.pair.role = .standby) (h : Steady t) :
      Steady { t with apply := { t.apply with handoverPending := some (epoch, seq) } } := steady_apply role h
  have applied := pending _ (by simpa using role) (recordApplied_steady role h)
  unfold applyHandover
  dsimp only
  split
  · exact applied
  · exact takeHandoverRole_steady applied

theorem judgeSequence_steady (seq : Half) (body : RecordBody) (role : s.pair.role = .standby) (h : Steady s) :
    Steady (judgeSequence seq body s) := by
  unfold judgeSequence
  split
  · cases body with
    | data kind region start words =>
      change Steady (applyData seq region start words s)
      unfold applyData
      split
      · exact issueWord_steady _ role h
      · exact applyFault_steady _ _ _ role h
    | beginMark epoch scope => exact recordApplied_steady role (steady_apply role h)
    | endMark => exact recordApplied_steady role (steady_apply role h)
    | handoverMark epoch => exact applyHandover_steady seq epoch role h
  · split
    · exact askAck_steady role h
    · unfold outOfTurn
      split
      · exact h
      · exact steady_ofStandby role h

theorem judgeRecord_steady (seq : Half) (body : RecordBody) (role : s.pair.role = .standby) (h : Steady s) :
    Steady (judgeRecord seq body s) := by
  have accepted (epoch : Half) (scope : Scope) : Steady (acceptBegin seq epoch scope s) :=
    askAck_steady (s := { s with apply := _ }) role (steady_apply role h)
  unfold judgeRecord
  split
  · exact accepted _ _
  · split
    · exact judgeSequence_steady _ _ role h
    · exact accepted _ _
  · exact h
  · exact judgeSequence_steady _ _ role h

theorem applyAnswer_steady (answer : MemAnswer) (held : HeldRecord) (role : s.pair.role = .standby) (h : Steady s) :
    Steady (applyAnswer answer held s) := by
  cases answer with
  | ok data => exact issueWord_steady _ role h
  | fault => exact applyFault_steady _ _ _ role h

/-! ### The walker (R125 to R130) -/

theorem takeBlock_working {b : Nat} (marked : b ∈ s.dirty) (h : Working s) : Working (takeBlock b s) := by
  refine walkerGoOn_working (h.of h.list (dirtyWf_erase b h.dirty) ?_)
  have inside := h.dirty
  simp only [dirtyWf, Bool.and_eq_true, List.all_eq_true] at inside
  simp [takenInside, of_decide_eq_true (inside.2 b marked)]

theorem finishWalk_working (h : Working s) : Working (finishWalk s) :=
  askMarker_working (s := { s with walker := { s.walker with run := .finished } }) _ h

/-- The SYNC record opens in a free entry, no other being open (R126). -/
theorem openSync_working (asks : walkerAsks s = true) (may : walkerMayTake s = true) (h : Working s) :
    Working (openSync s) := by
  simp only [walkerAsks, Bool.and_eq_true, Bool.not_eq_true'] at asks
  obtain ⟨⟨-, noSync⟩, -⟩ := asks
  have room : s.list.records.length + s.list.reserved.toNat < 64 := by
    have := of_decide_eq_true may
    simp only [occupancy, Config.listEntries] at this
    omega
  refine h.of (t := openSync s) ?_ h.dirty h.taken rfl rfl rfl rfl rfl rfl
  refine RecordsOk.append (closeWrite_ok h.list) ?_ rfl rfl ?_ fun _ => ?_
  · simpa [closeWrite] using room
  · simp [isOpenWrite, isWrite, syncBody]
  · rw [← fillsSync_eq_false_iff, fillsSync_closeWrite]
    exact noSync

theorem chunkClosed_working (h : Working s) : Working (chunkClosed s) := by
  have closed (w : Walker) (inside : takenInside w = true) : Working { s with walker := w } := h.of h.list h.dirty inside
  have inside : takenInside (let w := { s.walker with nextChunk := s.walker.nextChunk + 1 }
      if w.nextChunk < Config.chunksPerBlock then w else finishBlock w) = true := by
    dsimp only
    split
    · exact h.taken
    · rfl
  unfold chunkClosed
  dsimp only at inside ⊢
  generalize (if s.walker.nextChunk + 1 < Config.chunksPerBlock then _ else _ : Walker) = w at inside
  split
  · exact closed _ inside
  · exact walkerGoOn_working (closed w inside)

theorem walkerRead_working (data : Word) (h : Working s) : Working (walkerRead data s) := by
  have filled : Working { s with list := fillSync data s.list } := h.of (fillSync_ok h.list data) h.dirty h.taken
  unfold walkerRead
  dsimp only
  split
  · exact filled
  · exact chunkClosed_working filled

theorem setAutoResync_steady (a : AutoResync) (h : Steady s) : Steady (setAutoResync a s) := h

theorem autoResync_steady (h : Steady s) : Steady (autoResync s) := by
  have active (open_ : s.stream.mode ≠ .closed) : Working s := by
    refine h.working (by_contra fun role => open_ ?_)
    obtain ⟨-, -, -, -, closed, -⟩ := h.orderly.inactive role
    exact closed
  unfold autoResync
  split
  next mode => exact setAutoResync_steady _ (resyncStart_working (active (by simp [mode]))).steady
  next mode => exact setAutoResync_steady _ (resyncStart_working (active (by simp [mode]))).steady
  next mode =>
    split
    · exact h
    · exact setAutoResync_steady _ (resyncStart_working (handoverCancel_working _ (active (by simp [mode])))).steady
  · exact h
  · exact h

end

end Sys2Proof.Machine
end

section
/-! PROOFS. The invariant of `Safety.sound` at the management port, the loads and the resets, and at every command. -/

namespace Sys2Proof.Machine

open Sys2Proof.Safety

/-! ### What is locked while the unit has a role (R7, R32) -/

section
variable {cfg : Settings} {judged : Except Access Settings}

/-- A judgement that accepts a value accepts it into a configuration with the same region table and window. -/
def KeepsTable (cfg : Settings) (judged : Except Access Settings) : Prop :=
  ∀ accepted, judged = .ok accepted → accepted.regions = cfg.regions ∧ accepted.window = cfg.window

theorem KeepsTable.ok {accepted : Settings} (regions : accepted.regions = cfg.regions)
    (window : accepted.window = cfg.window) : KeepsTable cfg (.ok accepted) := by
  rintro _ ⟨⟩
  exact ⟨regions, window⟩

theorem KeepsTable.error (a : Access) : KeepsTable cfg (.error a) := by rintro _ ⟨⟩

theorem KeepsTable.ite {c : Prop} [Decidable c] {other : Except Access Settings} (yes : KeepsTable cfg judged)
    (no : KeepsTable cfg other) : KeepsTable cfg (if c then judged else other) := by
  split
  · exact yes
  · exact no

/-- A region item or WINDOW is LOCKED while the unit has a role (R7, R32). -/
theorem inRoleNone_keepsTable {role : Role} (judged : Except Access Settings) (has : role ≠ .none) :
    KeepsTable cfg (inRoleNone role judged) := by
  rw [inRoleNone, if_neg has]
  exact .error _

theorem ranged_keepsTable {accepted : Settings} (lo hi : Nat) (v : Word) (regions : accepted.regions = cfg.regions)
    (window : accepted.window = cfg.window) : KeepsTable cfg (ranged lo hi v accepted) :=
  .ite (.ok regions window) (.error _)

theorem judgeSetting_keepsTable {role : Role} (cfg : Settings) (item : Byte) (v : Word) (has : role ≠ .none) :
    KeepsTable cfg (judgeSetting role cfg item v) := by
  unfold judgeSetting
  split
  case h_3 => exact inRoleNone_keepsTable _ has
  case h_11 =>
    unfold judgeStartRole
    split
    · exact .ok rfl rfl
    · exact .error _
  case h_14 => exact .error _
  all_goals exact ranged_keepsTable _ _ _ rfl rfl

/-- While the unit has a role no write changes the region table or the window (R7, R32). -/
theorem judgeConfig_keepsTable {role : Role} (cfg : Settings) (item : Byte) (v : Word) (has : role ≠ .none) :
    KeepsTable cfg (judgeConfig role cfg item v) := by
  refine .ite (.ite (.ok rfl rfl) (.error _)) (.ite ?_ (.ite (inRoleNone_keepsTable _ has)
    (judgeSetting_keepsTable cfg item v has)))
  refine .ite ?_ (.error _)
  split
  · exact .ite (.error _) (.ok rfl rfl)
  · exact .error _

end

section
variable {s t : State}

/-- An accepted write of a configuration item, or a refused one, in the state it leaves (R173, R174). -/
theorem writeConfig_cases (item : Byte) (v : Word) (s : State) :
    (∃ cfg, judgeConfig s.pair.role s.cfg item v = .ok cfg ∧ writeConfig item v s = setAccess .ok { s with cfg := cfg })
    ∨ ∃ a, judgeConfig s.pair.role s.cfg item v = .error a ∧ writeConfig item v s = setAccess a s := by
  unfold writeConfig
  cases judgeConfig s.pair.role s.cfg item v with
  | ok cfg => exact .inl ⟨cfg, rfl, rfl⟩
  | error a => exact .inr ⟨a, rfl, rfl⟩

/-! ### States between the steps -/

/-- A write that is held stays so: the port and the role are as they were (R144, R146). -/
theorem heldIsActive_congr (port : t.host.port = s.host.port) (role : t.pair.role = s.pair.role)
    (h : heldIsActive s = true) : heldIsActive t = true := by
  unfold heldIsActive at h ⊢
  rw [port, role]
  exact h

theorem Kept.of (h : Kept s) (steady : Steady t) (port : t.host.port = s.host.port := by simp)
    (role : t.pair.role = s.pair.role := by simp) : Kept t :=
  ⟨steady, heldIsActive_congr port role h.2⟩

theorem kept_raise {e : Event} (he : e ≠ .partnerInconsistent) (h : Kept s) : Kept (raise e s) :=
  h.of (raise_steady he h.1)

theorem kept_ite {c : Prop} [Decidable c] (yes : c → Kept s) (no : ¬ c → Kept t) : Kept (if c then s else t) := by
  split
  · exact yes ‹_›
  · exact no ‹_›

theorem Working.kept (h : Working s) : Kept s := by
  refine ⟨h.steady, ?_⟩
  unfold heldIsActive
  split <;> simp [h.role]

/-! ### Loads (R191 to R195) -/

/-- The configuration may change where the window stays or no record stands (R32). -/
theorem steady_cfg {cfg : Settings} (window : cfg.window = s.cfg.window ∨ s.pair.role = .none) (h : Steady s) :
    Steady { s with cfg := cfg } := by
  refine ⟨⟨?_, h.1.2⟩, h.2⟩
  rcases window with same | role
  · rw [ListOk, same]
    exact h.orderly.list
  · exact listOk_of_empty (h.orderly.inactive (by simp [role])).1

/-- A loader that reads no image, or that of a unit in role NONE (R194). -/
theorem steady_loader {l : Loader} (loading : l.state ≠ .loading ∨ s.pair.role = .none) (h : Steady s) :
    Steady { s with loader := l } := by
  obtain ⟨⟨list, empty, standby, -, rest⟩, handover⟩ := h
  refine ⟨⟨list, empty, standby, ?_, rest⟩, handover⟩
  rcases loading with other | role
  · simp [loadingIsNone, other]
  · simp [loadingIsNone, role]

/-- A departure from UP with no handover under way and none pending is that of the link alone (R81). -/
theorem leaveUp_of_plain (new : LinkState) (pending : s.apply.handoverPending = none)
    (idle : handoverRunning s = false) : leaveUp new s = leaveUpCore new s := by
  unfold leaveUp
  split
  case isTrue up =>
    have kept : takeHandoverRole (leaveUpCore new s) = leaveUpCore new s := by
      simp [takeHandoverRole, leaveUpCore_apply, pending]
    have idle' : handoverRunning (leaveUpCore new s) = false := by
      simpa [handoverRunning, leaveUpCore_mgmt] using idle
    rw [kept, handoverOffUp, if_neg (by simp [idle'])]
  case isFalse notUp => rw [leaveUpCore_of_not_up s new notUp]

/-- A disable with no handover under way and none pending (R70, R81). -/
theorem disableLink_of_plain (pending : s.apply.handoverPending = none) (idle : handoverRunning s = false) :
    (disableLink s).pair.role = s.pair.role ∧ (disableLink s).apply = s.apply ∧ (disableLink s).mgmt = s.mgmt := by
  have off : ∀ u : State, u.apply.handoverPending = none → handoverRunning u = false →
      (linkOff u).pair.role = u.pair.role ∧ (linkOff u).apply = u.apply ∧ (linkOff u).mgmt = u.mgmt := by
    intro u pending idle
    unfold linkOff
    split
    · rw [leaveUp_of_plain _ pending idle]
      simp [leaveUpCore_role, leaveUpCore_apply, leaveUpCore_mgmt]
    · exact ⟨rfl, rfl, rfl⟩
  obtain ⟨role, apply, mgmt⟩ := off { s with tx := { s.tx with serializer := cutOff s.tx.serializer } } pending idle
  unfold disableLink
  rw [takeHandoverRole]
  simp [apply, role, mgmt, pending]

/-- The link follows LINK_CONTROL with no handover under way and none pending: role and slot stay (R70). -/
theorem followLinkControl_of_plain (oldEnable : Bool) (oldRate : LinkRate) (pending : s.apply.handoverPending = none)
    (idle : handoverRunning s = false) : (followLinkControl oldEnable oldRate s).pair.role = s.pair.role
      ∧ (followLinkControl oldEnable oldRate s).apply = s.apply
      ∧ (followLinkControl oldEnable oldRate s).mgmt = s.mgmt := by
  have disabled := disableLink_of_plain pending idle
  unfold followLinkControl
  split
  · exact ⟨rfl, rfl, rfl⟩
  · exact disabled
  · split
    · exact ⟨rfl, rfl, rfl⟩
    · exact disabled
  · exact ⟨rfl, rfl, rfl⟩

/-- A unit in role NONE has no HANDOVER in progress (R90). -/
theorem Steady.idle_of_none (h : Steady s) (role : s.pair.role = .none) : handoverRunning s = false := by
  simpa [handoverIsActive, role] using h.2

theorem reportLoad_steady (detail : Detail) (h : Steady s) : Steady (reportLoad detail s) := by
  have raised : Steady (raise .loadEnd s) := raise_steady (by decide) h
  unfold reportLoad
  dsimp only
  split
  · exact endCommand_steady _ _ (by decide) raised.orderly
  · exact raised

theorem enterStartRole_steady (ready : s.phase = .running ∧ s.loader.state ≠ .loading) (role : s.pair.role = .none)
    (h : Steady s) : Steady (enterStartRole s) := by
  unfold enterStartRole
  split
  · exact h
  · exact changeRole_steady h (.inr ready) (.inl rfl)
  · exact changeRole_steady h (.inr ready) (.inr (h.idle_of_none role))

theorem commitLoad_steady (staging : Settings) (phase : s.phase = .running) (role : s.pair.role = .none)
    (h : Steady s) : Steady (commitLoad staging s) := by
  have configured : Steady (updateAlert { s with cfg := staging }) := by
    have changed : Steady { s with cfg := staging } := steady_cfg (.inr role) h
    exact changed
  have pending : s.apply.handoverPending = none := (h.orderly.notStandby (by simp [role])).2.2.2.1
  obtain ⟨role', -, -⟩ := followLinkControl_of_plain (s := updateAlert { s with cfg := staging }) s.cfg.linkEnable
    s.cfg.linkRate pending (h.idle_of_none role)
  unfold commitLoad
  refine reportLoad_steady _ (enterStartRole_steady ⟨?_, ?_⟩ ?_ (steady_loader (.inl ?_) ?_))
  · simpa using phase
  · simp [endLoad]
  · exact role'.trans role
  · simp [endLoad]
  · exact followLinkControl_steady _ _ configured

/-- The loader reads an image only in role NONE (R194). -/
theorem Orderly.none_of_loading (h : Orderly s) (loading : s.loader.state = .loading) : s.pair.role = .none := by
  obtain ⟨-, -, -, none, -⟩ := h
  simpa [loadingIsNone, loading] using none

theorem isLoading_iff : isLoading s = true ↔
    s.phase = .running ∧ s.loader.state = .loading ∧ s.loader.reading = true := by
  simp [isLoading, and_assoc]

theorem failLoad_kept {state : LoadState} (index : Byte) (detail : Detail) (ended : state ≠ .loading) (h : Kept s) :
    Kept (failLoad state index detail s) := by
  refine h.of (reportLoad_steady detail (steady_loader (.inl ended) h.1)) ?_ ?_
  · unfold failLoad reportLoad
    dsimp only
    split <;> simp [endCommand]
  · unfold failLoad reportLoad
    dsimp only
    split <;> simp [endCommand]

/-! ### Resets (R185, R186) -/

/-- A unit in role NONE takes a role with no event (R73, R186). -/
theorem enterRole_steady (new : Role) (phase : s.phase = .running) (loader : s.loader.state ≠ .loading)
    (role : s.pair.role = .none) (h : Steady s) : Steady (enterRole new s) := by
  obtain ⟨records, reserved, marker, dirty, -, -, -, run, taken, auto⟩ := h.orderly.inactive (by simp [role])
  obtain ⟨-, -, -, -, -, ack⟩ := h.orderly.notStandby (by simp [role])
  have idle := h.idle_of_none role
  obtain ⟨⟨list, -, -, -, -, reads, map, inside, rx⟩, -⟩ := h
  refine ⟨⟨list, ?_, ?_, ?_, ?_, ?_, map, inside, rx⟩, ?_⟩
  · simp [inactiveEmpty, enterRole, records, reserved, marker, dirty, run, taken, auto]
  · simp [standbyOnly, enterRole, ApplyEngine.reset, ack]
  · simp [loadingIsNone, enterRole, loader]
  · simp [resetIsNone, enterRole, phase]
  · simp only [walkerReadIsActive, role, Bool.or_eq_true] at reads ⊢
    exact .inr (reads.resolve_left (by decide))
  · have idle' : handoverRunning (enterRole new s) = false := idle
    simp [handoverIsActive, idle']

/-- A held request is answered at a warm reset (R154). -/
theorem warmHost_not_held (s : State) (hold : HoldKind) (req : HostReq) (cls : HostClass) (counted : Bool) :
    (warmHost s).port ≠ .held hold req cls counted := by
  unfold warmHost
  split <;> simp [HostPort.reset]

/-- A warm reset, whatever state it finds (R186). -/
theorem warmEffects_kept (s : State) : Kept (warmEffects s) := by
  refine ⟨⟨⟨listOk_of_empty rfl, rfl, rfl, ?_, ?_, ?_, rfl, rfl, rfl⟩, rfl⟩, ?_⟩
  · exact Bool.or_true _
  · exact Bool.or_true _
  · rcases bus : s.mem.bus with _ | _ | _ <;> simp [walkerReadIsActive, withdrawn, bus]
  · unfold heldIsActive
    split
    next hold req cls counted port => exact absurd port (warmHost_not_held s hold req cls counted)
    next => rfl

theorem restartLoadOrRole_steady (phase : s.phase = .running) (role : s.pair.role = .none) (h : Steady s) :
    Steady (restartLoadOrRole s) := by
  unfold restartLoadOrRole
  split
  · exact steady_loader (.inr role) h
  · exact enterRole_steady _ phase ‹_› role h

/-- The end of a warm reset, in role NONE until then (R186). -/
theorem warmEnd_kept (role : s.pair.role = .none) (h : Kept s) : Kept (warmEnd s) := by
  have running : Steady { s with phase := .running } := by
    obtain ⟨⟨⟨list, empty, standby, loading, -, rest⟩, handover⟩, -⟩ := h
    exact ⟨⟨list, empty, standby, loading, rfl, rest⟩, handover⟩
  have restarted := restartLoadOrRole_steady (s := { s with phase := .running }) rfl role running
  have unheld (t : State) (port : t.host.port = s.host.port) : heldIsActive t = true := by
    have held := h.2
    unfold heldIsActive at held ⊢
    rw [port]
    split <;> simp_all
  have port : (restartLoadOrRole { s with phase := .running }).host.port = s.host.port := by
    unfold restartLoadOrRole
    split <;> rfl
  unfold warmEnd
  dsimp only
  generalize restartLoadOrRole { s with phase := .running } = t at restarted port
  split
  · exact ⟨schedule_steady (enableLink_steady restarted), schedule_held (unheld _ port)⟩
  · exact ⟨schedule_steady restarted, schedule_held (unheld _ port)⟩

/-- A cold reset's values (R185). -/
theorem coldReset_kept (pending : List Instr) (wrst : Bool) :
    Kept { State.reset with pending := pending, wrst := wrst } :=
  (sound_iff.mp (show sound { State.reset with pending := pending, wrst := wrst } = true from rfl)).1

theorem coldStart_kept (addr : BitVec 2) (loadEn : Bool) (s : State) : Kept (coldStart addr loadEn s) := by
  have reset := coldReset_kept s.pending s.wrst
  have loaded : Steady { ({ State.reset with pending := s.pending, wrst := s.wrst } : State) with
      loader := startLoader loadEn s.wrst } := steady_loader (.inr rfl) reset.1
  obtain ⟨⟨list, empty, standby, loading, -, rest⟩, -⟩ := loaded
  exact ⟨⟨⟨list, empty, standby, loading, rfl, rest⟩, rfl⟩, rfl⟩

/-! ### The command slot (R86 to R90, R119, R177 to R182) -/

/-- A command that ended at once, or was refused, is no HANDOVER in progress (R178). -/
theorem endedAtOnce_steady (c : Command) {state : CmdState} (reason : Reason) (ended : state ≠ .inProgress)
    (h : Orderly s) : Steady (raise .commandEnd (describe c state reason .none s)) := by
  refine raise_steady (by decide) ⟨h, ?_⟩
  simp [handoverIsActive, handoverRunning, describe, ended]

theorem doneAtOnce_steady (c : Command) (h : Orderly s) : Steady (doneAtOnce c s) :=
  endedAtOnce_steady c _ (by decide) h

theorem doneAtOnce_kept (c : Command) (h : Kept s) : Kept (doneAtOnce c s) :=
  h.of (doneAtOnce_steady c h.1.orderly) (by simp [doneAtOnce, describe]) (by simp [doneAtOnce, describe])

theorem refusedAtOnce_kept (c : Command) (reason : Reason) (h : Kept s) : Kept (refusedAtOnce c reason s) :=
  h.of (endedAtOnce_steady c reason (by decide) h.1.orderly) (by simp [refusedAtOnce, describe])
    (by simp [refusedAtOnce, describe])

theorem refusedBusy_kept (c : Command) (h : Kept s) : Kept (refusedBusy c s) := kept_raise (by decide) h

/-- A command's own rule on a unit that runs, reads no image and has no command IN_PROGRESS (R177). -/
theorem commandEffect_kept (c : Command) (phase : s.phase = .running) (loader : s.loader.state ≠ .loading)
    (ended : s.mgmt.result.state ≠ .inProgress) (h : Kept s) : Kept (commandEffect c s) := by
  have idle : handoverRunning s = false := by simp [handoverRunning, ended]
  have changed (new : Role) : Orderly (changeRole new s) := changeRole_orderly h.1.orderly (.inr ⟨phase, loader⟩)
  cases c with
  | setActive =>
    change Kept (setActiveEffect s)
    unfold setActiveEffect
    split
    · exact finish_kept (doneAtOnce_steady _ (changed _))
    next role =>
      refine kept_ite (fun _ => refusedAtOnce_kept _ _ h) fun _ => ?_
      exact finish_kept (doneAtOnce_steady _ (promote_steady h.1 role).orderly)
    · exact doneAtOnce_kept _ h
  | setStandby =>
    exact kept_ite (fun _ => doneAtOnce_kept _ h) fun _ => finish_kept (doneAtOnce_steady _ (changed _))
  | setNone =>
    exact kept_ite (fun _ => doneAtOnce_kept _ h) fun _ => finish_kept (doneAtOnce_steady _ (changed _))
  | handover =>
    change Kept (handoverEffect s)
    unfold handoverEffect
    split
    next reason refusal => exact refusedAtOnce_kept _ _ h
    next accepted =>
      have active : s.pair.role = .active := by
        by_contra role
        simp [handoverRefusal, role] at accepted
      have working := h.1.working active
      refine finish_kept (Working.steady (s := acceptHandover s) ?_)
      exact working.of (closeWrite_ok working.list) working.dirty working.taken rfl rfl rfl rfl rfl rfl
  | resync =>
    change Kept (resyncEffect s)
    unfold resyncEffect
    split
    next reason refusal => exact refusedAtOnce_kept _ _ h
    next accepted =>
      have active : s.pair.role = .active := by
        by_contra role
        simp [resyncRefusal, role] at accepted
      exact finish_kept (doneAtOnce_steady _ (resyncStart_working (h.1.working active)).steady.orderly)
  | restart => exact warmEnd_kept rfl (warmEffects_kept _)
  | reload =>
    refine kept_ite (fun role => ?_) fun _ => refusedAtOnce_kept _ _ h
    have described : Steady (describe .reload .inProgress .none .none s) :=
      ⟨h.1.orderly, by simp [handoverIsActive, handoverRunning, describe]⟩
    exact h.of (steady_loader (.inr role) described) rfl rfl
  | clearCounters =>
    refine doneAtOnce_kept _ (h.of ?_ rfl rfl)
    have zeroed : Steady { s with rx := { s.rx with charErrors := 0#16, badFrames := 0#16, rxDrops := 0#16 } } :=
      steady_rx (rx := { s.rx with charErrors := 0#16, badFrames := 0#16, rxDrops := 0#16 }) h.1.orderly.rx h.1
    exact zeroed

theorem takeCommand_kept (c : Command) (phase : s.phase = .running) (loader : s.loader.state ≠ .loading)
    (h : Kept s) : Kept (takeCommand c (commandEffect c) s) := by
  have ready : Kept (if isRoleCommand c then cancelPromote (setAccess .ok s) else setAccess .ok s) := by
    refine kept_ite (fun _ => ?_) fun _ => h
    rw [cancelPromote_eq]
    exact h
  by_cases running : s.mgmt.result.state = .inProgress
  · rw [takeCommand_busy _ _ running]
    exact refusedBusy_kept _ ready
  · rw [takeCommand_own s _ _ running]
    refine commandEffect_kept c ?_ ?_ ?_ ready <;> split <;> simpa [cancelPromote_eq]

/-! ### Writes (R173, R174) -/

theorem writeConfig_kept (item : Byte) (v : Word) (h : Kept s) : Kept (writeConfig item v s) := by
  rcases writeConfig_cases item v s with ⟨cfg, accepted, e⟩ | ⟨a, -, e⟩ <;> rw [e]
  · have configured : Steady { s with cfg := cfg } := by
      refine steady_cfg ?_ h.1
      by_cases role : s.pair.role = .none
      · exact .inr role
      · exact .inl (judgeConfig_keepsTable _ _ _ role _ accepted).2
    exact h.of configured rfl rfl
  · exact h

theorem writeLinkControl_kept (v : Word) (h : Kept s) : Kept (writeLinkControl v s) :=
  finish_kept (followLinkControl_steady _ _ (writeConfig_kept _ _ h).1)

theorem writeRoutes_kept (v : Word) (h : Kept s) : Kept (writeRoutes v s) := writeConfig_kept _ _ h

theorem clearFlags_kept (v : Word) (h : Kept s) : Kept (clearFlags v s) := kept_ite (fun _ => h) fun _ => h

theorem writeOwn_kept (item : Byte) (v : Word) (phase : s.phase = .running) (loader : s.loader.state ≠ .loading)
    (h : Kept s) : Kept (writeOwn item v s) := by
  unfold writeOwn
  split
  · exact clearFlags_kept _ h
  · unfold writeCommand
    split
    · exact takeCommand_kept _ phase loader h
    · exact h
  · exact kept_ite (fun _ => writeRoutes_kept _ h) fun _ =>
      kept_ite (fun _ => writeLinkControl_kept _ h) fun _ => writeConfig_kept _ _ h
  · exact h

/-- A write is taken by a unit that runs; its item's own rule, by one that reads no image (R169, R173). -/
theorem writeTransaction_kept (target : BitVec 7) (item : Byte) {own : State → State}
    (kept : ∀ t : State, t.phase = .running → t.loader.state ≠ .loading → Kept t → Kept (own t)) (h : Kept s) :
    Kept (writeTransaction target item own s) := by
  unfold writeTransaction
  rcases transaction_cases (s := s) target (writeLength 4) _ with ⟨addressed, e⟩ | ⟨-, e⟩ <;> rw [e]
  · have phase : s.phase = .running := by
      simp only [acknowledges, Bool.and_eq_true, beq_iff_eq] at addressed
      exact addressed.1.1
    dsimp only
    split
    · exact h
    · exact kept_ite (fun _ => h) fun loader => kept_ite (fun _ => h) fun _ => kept _ phase loader h
  · exact h

end

end Sys2Proof.Machine
end

section
/-! PROOFS. Every command keeps the unit sound. -/

namespace Sys2Proof.Machine

open Sys2Proof.Safety

/-! ### A character on the line leaves host port and role alone (R52) -/

section
variable {s : State}

theorem badFrame_host (next : Assembler) : (badFrame next s).host = s.host := by simp [badFrame]

theorem badFrame_role (next : Assembler) : (badFrame next s).pair.role = s.pair.role := by simp [badFrame]

theorem judgeFrame_host (t : FrameType) (data : List Byte) (crc : Half) :
    (judgeFrame t data crc s).host = s.host := by
  unfold judgeFrame placeFrame
  split
  · split <;> rfl
  · exact badFrame_host _

theorem judgeFrame_role (t : FrameType) (data : List Byte) (crc : Half) :
    (judgeFrame t data crc s).pair.role = s.pair.role := by
  unfold judgeFrame placeFrame
  split
  · split <;> rfl
  · exact badFrame_role _

theorem collect_host (t : FrameType) (data : List Byte) (crc : Half) (b : Byte) :
    (collect t data crc b s).host = s.host := by
  unfold collect
  split
  · rfl
  · exact badFrame_host _

theorem collect_role (t : FrameType) (data : List Byte) (crc : Half) (b : Byte) :
    (collect t data crc b s).pair.role = s.pair.role := by
  unfold collect
  split
  · rfl
  · exact badFrame_role _

theorem assemble_host (sym : RxSymbol) : (assemble sym s).host = s.host := by
  unfold assemble
  split
  case h_1 =>
    unfold assembleInFrame
    split
    · exact collect_host _ _ _ _
    · exact badFrame_host _
    · exact judgeFrame_host _ _ _
    · rfl
    · exact badFrame_host _
  all_goals rfl

theorem assemble_role (sym : RxSymbol) : (assemble sym s).pair.role = s.pair.role := by
  unfold assemble
  split
  case h_1 =>
    unfold assembleInFrame
    split
    · exact collect_role _ _ _ _
    · exact badFrame_role _
    · exact judgeFrame_role _ _ _
    · rfl
    · exact badFrame_role _
  all_goals rfl

theorem takeCharacter_host (bits : BitVec 12) : (takeCharacter bits s).host = s.host := by
  unfold takeCharacter
  split
  · simp [assemble_host, characterError]
  · exact assemble_host _

theorem takeCharacter_role (bits : BitVec 12) : (takeCharacter bits s).pair.role = s.pair.role := by
  unfold takeCharacter
  split
  · simp [assemble_role, characterError]
  · exact assemble_role _

end

/-! ### The memory port (R151 to R153) -/

/-- The arbiter's bounds, and the one request of the internal requester. -/
def PortOk (m : MemPort) : Prop := fairnessWf m = true ∧ oneInternal m = true

/-- A grant goes to nobody, to the host path, or to the internal requester that waits (R152). -/
theorem arbitrate_cases (host : Option HostReq) (m : MemPort) : arbitrate host m = m
    ∨ (∃ req count, arbitrate host m = grantHost req count m)
    ∨ ∃ op, m.waiting = some op ∧ arbitrate host m = grantInternal op := by
  unfold arbitrate
  split
  next req op waits =>
    split
    · exact .inr (.inl ⟨_, _, rfl⟩)
    · exact .inr (.inr ⟨op, waits, rfl⟩)
  next req waits => exact .inr (.inl ⟨_, _, rfl⟩)
  next op waits => exact .inr (.inr ⟨op, waits, rfl⟩)
  next => exact .inl rfl

/-- Each of the port's own moves keeps its bounds. -/
theorem PortMove.ok {m n : MemPort} (move : PortMove m n) (h : PortOk m) : PortOk n := by
  obtain ⟨fair, one⟩ := h
  cases move with
  | withdraw =>
    refine ⟨rfl, ?_⟩
    rcases m.bus with _ | _ | _ <;> simp [oneInternal, withdrawn]
  | free => exact ⟨fair, by simp [oneInternal, internalBusy]⟩
  | ask op =>
    rcases requested_cases op m with ⟨busy, e⟩ | ⟨free, e⟩ <;> rw [e]
    · exact ⟨fair, one⟩
    · refine ⟨?_, ?_⟩
      · simp only [fairnessWf, Bool.and_eq_true] at fair ⊢
        exact ⟨fair.1, rfl⟩
      · have free' : internalBusy { m with waiting := some op } = false := free
        simp [oneInternal, free']
  | grant host bus =>
    have limit : m.fairness ≤ 4 := by
      simp only [fairnessWf, Bool.and_eq_true] at fair
      exact of_decide_eq_true fair.1
    unfold arbitrate
    split
    next req op waits =>
      split
      next below =>
        refine ⟨?_, by simp [oneInternal, internalBusy, grantHost]⟩
        simp only [fairnessWf, grantHost, waits, Bool.and_eq_true]
        exact ⟨decide_eq_true (Nat.succ_le_of_lt below), rfl⟩
      next => exact ⟨rfl, by simp [oneInternal, grantInternal]⟩
    next req waits => exact ⟨fair, by simp [oneInternal, internalBusy, grantHost]⟩
    next op waits => exact ⟨rfl, by simp [oneInternal, grantInternal]⟩
    next => exact ⟨fair, one⟩
  | reset => exact ⟨rfl, rfl⟩

theorem PortMoves.ok {m n : MemPort} (moves : PortMoves m n) (h : PortOk m) : PortOk n := by
  induction moves with
  | refl => exact h
  | tail _ move ih => exact move.ok ih

/-! ### All commands -/

theorem closeWrite_steady {s : State} (h : Steady s) : Steady { s with list := closeWrite s.list } := by
  obtain ⟨⟨list, empty, rest⟩, handover⟩ := h
  exact ⟨⟨closeWrite_ok list, by simpa [inactiveEmpty, closeWrite] using empty, rest⟩, handover⟩

/-- A command that completes leaves the invariant in force. -/
def AnswersKept (outcome : Host.Outcome State Fault Refusal) : Prop := ∀ t : State, outcome = .next t → Kept t

section
variable {s t : State}

theorem AnswersKept.next (h : Kept t) : AnswersKept (.next t) := by
  rintro _ ⟨⟩
  exact h

/-- A step that ends with `finish`, or does nothing. -/
theorem AnswersKept.finish {c : Prop} [Decidable c] (h : Kept s) (steady : c → Steady t) :
    AnswersKept (.next (if c then Machine.finish t else s)) :=
  .next (kept_ite (fun hc => finish_kept (steady hc)) fun _ => h)

variable (h : Kept s)
include h

theorem coldResetEnd_kept (addr : BitVec 2) (loadEn : Bool) : AnswersKept (execColdResetEnd addr loadEn s) := by
  have started := coldStart_kept addr loadEn s
  exact .next (kept_ite (fun _ => kept_ite (fun _ => started) fun _ => kept_raise (by decide) started) fun _ => h)

theorem warmReset_kept : AnswersKept (execWarmReset s) := by
  refine .next (kept_ite (fun _ => h) fun _ => kept_ite (fun _ => h) fun _ => ?_)
  obtain ⟨⟨⟨list, empty, standby, loading, -, rest⟩, handover⟩, held⟩ := warmEffects_kept s
  exact ⟨⟨⟨list, empty, standby, loading, rfl, rest⟩, handover⟩, held⟩

theorem warmResetEnd_kept : AnswersKept (execWarmResetEnd s) := by
  refine .next (kept_ite (fun _ => ?_) fun _ => h)
  have released : Kept { s with wrst := false } := h
  split
  · exact released
  next warm =>
    have role : s.pair.role = .none := by
      obtain ⟨⟨-, -, -, -, reset, -⟩, -⟩ := h.1
      simpa [resetIsNone, warm] using reset
    exact warmEnd_kept role released
  · refine kept_ite (fun loading => ?_) fun _ => released
    have role := h.1.orderly.none_of_loading loading.1
    exact h.of (steady_loader (s := { s with wrst := false }) (.inr role) h.1) rfl rfl

theorem loadCommit_kept (image : List Bool) : AnswersKept (execLoadCommit image s) := by
  refine .next (kept_ite (fun loading => ?_) fun _ => h)
  obtain ⟨phase, state, -⟩ := isLoading_iff.mp loading
  split
  · exact finish_kept (commitLoad_steady _ phase (h.1.orderly.none_of_loading state) h.1)
  · exact h

theorem loadFail_kept (image : List Bool) : AnswersKept (execLoadFail image s) := by
  refine .next (kept_ite (fun _ => ?_) fun _ => h)
  split
  · exact failLoad_kept _ _ (by decide) h
  · exact failLoad_kept _ _ (by decide) h
  · exact h

/-- A grant takes a request that waits: a walker read is granted to an ACTIVE unit only (R152, R153). -/
theorem memoryGrant_kept : AnswersKept (execMemoryGrant s) := by
  refine .next (kept_ite (fun free => ?_) fun _ => h)
  refine h.of (steady_mem ?_ h.1) rfl rfl
  have reads := h.1.orderly.reads
  simp only [walkerReadIsActive, Bool.or_eq_true, Bool.and_eq_true] at reads ⊢
  refine reads.imp id fun ⟨waiting, bus⟩ => ?_
  rcases arbitrate_cases (hostPathRequest s) s.mem with e | ⟨req, count, e⟩ | ⟨op, waits, e⟩ <;> rw [e]
  · exact ⟨waiting, bus⟩
  · exact ⟨waiting, rfl⟩
  · rw [waits] at waiting
    cases op with
    | applyWrite => exact ⟨rfl, rfl⟩
    | walkerRead => cases waiting

theorem hostMemoryAnswer_kept (answer : MemAnswer) : AnswersKept (execHostMemoryAnswer answer s) := by
  refine .next ?_
  split
  · exact finish_kept (hostAnswer_steady _ _ _ _ (freeBus_steady h.1))
  · exact h

theorem holdReserved_kept : AnswersKept (execHoldReserved s) := by
  refine .next ?_
  split
  next req cls counted port =>
    refine kept_ite (fun free => ?_) fun _ => h
    have active : s.pair.role = .active := by simpa [heldIsActive, port] using h.2
    exact ⟨reserveAndForward_steady req cls active free h.1, rfl⟩
  · exact h

theorem holdTimerExpiry_kept : AnswersKept (execHoldTimerExpiry s) := by
  refine .next ?_
  split
  next req cls counted port =>
    refine kept_ite (fun _ => finish_kept (reclassify_steady _ _ (Working.steady (spill_working ?_)))) fun _ => h
    have active : s.pair.role = .active := by simpa [heldIsActive, port] using h.2
    exact raise_working _ (h.1.working active)
  · exact h

/-- The end of a confirm wait leaves the port IDLE (R148). -/
theorem failConfirmWait_kept : Kept (failConfirmWait s) := by
  refine ⟨failConfirmWait_steady h.1, ?_⟩
  unfold failConfirmWait
  split
  · unfold heldIsActive
    simp
  · exact h.2

theorem linkCharacter_kept (bits : BitVec 12) : AnswersKept (execLinkCharacter bits s) := by
  refine .next (kept_ite (fun _ => ?_) fun _ => h)
  exact h.of (takeCharacter_steady bits h.1) (congrArg HostPort.port (takeCharacter_host bits)) (takeCharacter_role bits)

theorem helloReceived_kept : AnswersKept (execHelloReceived s) := by
  refine .next ?_
  split
  · exact finish_kept (takeHello_steady _ (dropOldest_steady h.1))
  · exact h

theorem pulseReceived_kept : AnswersKept (execPulseReceived s) := by
  refine .next ?_
  split
  · exact finish_kept (takePulse_steady _ (dropOldest_steady h.1))
  · exact h

theorem ackReceived_kept : AnswersKept (execAckReceived s) := by
  refine .next ?_
  split
  · exact kept_ite (fun _ => finish_kept (takeAck_steady _ (dropOldest_steady h.1))) fun _ => h
  · exact h

theorem nakReceived_kept : AnswersKept (execNakReceived s) := by
  refine .next ?_
  split
  · exact kept_ite (fun _ => finish_kept (takeNak_steady _ (dropOldest_steady h.1))) fun _ => h
  · exact h

theorem frameDiscarded_kept : AnswersKept (execFrameDiscarded s) := by
  refine .next ?_
  split
  · exact kept_ite (fun _ => h.of (dropOldest_steady h.1) rfl rfl) fun _ => h
  · exact h

theorem recordTaken_kept : AnswersKept (execRecordTaken s) := by
  refine .next ?_
  split
  · refine kept_ite (fun free => ?_) fun _ => h
    have role : s.pair.role = .standby := (engineFree_iff.mp free).1
    exact finish_kept (judgeRecord_steady _ _ role (dropOldest_steady h.1))
  · exact h

theorem applyWriteAnswer_kept (answer : MemAnswer) : AnswersKept (execApplyWriteAnswer answer s) := by
  refine .next ?_
  split
  · split
    next own _ =>
      have role : s.pair.role = .standby := by
        by_contra role
        simp [(h.1.orderly.notStandby role).2.2.1] at own
      exact finish_kept (applyAnswer_steady _ _ role (freeBus_steady h.1))
    · exact h.of (discardAnswer_steady h.1) rfl rfl
  · exact h

theorem lossTimerExpiry_kept : AnswersKept (execLossTimerExpiry s) := by
  have down : Kept (finish (enterLink .down s)) := finish_kept h.1
  refine .next (kept_ite (fun _ => ?_) fun _ => h)
  split
  · exact finish_kept (loseLink_steady h.1)
  · exact down
  · exact down
  · exact down
  · exact h
  · exact h

theorem drainTimerExpiry_kept : AnswersKept (execDrainTimerExpiry s) := by
  refine .finish h fun ⟨_, drains⟩ => Working.steady (handoverCancel_working _ (h.1.working ?_))
  simp only [inDrainPhase, Bool.and_eq_true] at drains
  exact h.1.active_of_handover drains.1

theorem handoverMarkerAppend_kept : AnswersKept (execHandoverMarkerAppend s) := by
  refine .finish h fun ⟨drains, _, empty⟩ => Working.steady (appendHandover_working empty (h.1.working ?_))
  simp only [inDrainPhase, Bool.and_eq_true] at drains
  exact h.1.active_of_handover drains.1

theorem markerAppend_kept : AnswersKept (execMarkerAppend s) := by
  refine .next ?_
  split
  next body waits =>
    refine kept_ite (fun may => finish_kept ?_) fun _ => h
    have active : s.pair.role = .active := by
      by_contra role
      obtain ⟨-, -, none, -⟩ := h.1.orderly.inactive role
      simp [none] at waits
    have working := h.1.working active
    have room : occupancy s.list < 64 := Nat.lt_of_le_of_lt (Nat.le_add_right _ _) (of_decide_eq_true may)
    refine Working.steady (working.of ?_ working.dirty working.taken)
    exact addRecord_pending_ok (l := { s.list with waitingMarker := none }) working.list body false room
  · exact h

/-- A walker that runs is an ACTIVE unit's (R137). -/
theorem working_of_running (run : s.walker.run = .running) : Working s :=
  h.1.working (h.1.orderly.active_of_run (by simp [run]))

theorem walkerTakeBlock_kept : AnswersKept (execWalkerTakeBlock s) := by
  refine .next (kept_ite (fun searches => ?_) fun _ => h)
  simp only [walkerSearches, Bool.and_eq_true, beq_iff_eq] at searches
  have working := working_of_running h searches.1
  split
  next b found => exact (takeBlock_working (List.mem_of_find?_eq_some found) working).kept
  next => exact finish_kept (finishWalk_working working).steady

theorem walkerOpenSync_kept : AnswersKept (execWalkerOpenSync s) := by
  refine .finish h fun opens => ?_
  obtain ⟨asks, may⟩ := Bool.and_eq_true_iff.mp opens
  have run : s.walker.run = .running := by
    simp only [walkerAsks, Bool.and_eq_true, beq_iff_eq] at asks
    exact asks.1.1.1.1
  exact (openSync_working asks may (working_of_running h run)).steady

theorem walkerReadAnswer_kept (answer : MemAnswer) : AnswersKept (execWalkerReadAnswer answer s) := by
  refine .next ?_
  split
  next addr disowned bus =>
    refine kept_ite (fun _ => h.of (discardAnswer_steady h.1) rfl rfl) fun own => ?_
    have active : s.pair.role = .active := by
      have reads := h.1.orderly.reads
      simpa [walkerReadIsActive, bus, Bool.eq_false_of_not_eq_true own] using reads
    have working : Working (freeBus s) := h.1.working active
    cases answer with
    | ok data => exact finish_kept (walkerRead_working data working).steady
    | fault => exact finish_kept (resyncAbandon_working working).steady
  · exact h

theorem autoResyncTaken_kept : AnswersKept (execAutoResyncTaken s) := by
  refine .finish h fun asked => autoResync_steady ?_
  have active : s.pair.role = .active := by
    by_contra role
    simp [h.1.orderly.inactive role] at asked
  exact Working.steady (s := { s with walker := { s.walker with autoRequest := false } }) (h.1.working active)

/-! ### The management port -/

theorem write_kept (target : BitVec 7) (item : Byte) {own : State → State}
    (kept : ∀ t : State, t.phase = .running → t.loader.state ≠ .loading → Kept t → Kept (own t)) :
    AnswersKept (.next (writeTransaction target item own s)) := .next (writeTransaction_kept target item kept h)

theorem command_kept (target : BitVec 7) (c : Command) :
    AnswersKept (.next (commandTransaction target c (commandEffect c) s)) :=
  write_kept h target _ fun _ phase loader => takeCommand_kept c phase loader

theorem transaction_kept (target : BitVec 7) (bytes : Nat) {taken : State → State}
    (kept : ∀ t : State, Kept t → Kept (taken t)) : AnswersKept (.next (transaction target bytes taken s)) := by
  refine .next ?_
  rcases transaction_cases (s := s) target bytes taken with ⟨-, e⟩ | ⟨-, e⟩ <;> rw [e]
  · exact kept _ h
  · exact h

/-- Every command keeps the invariant. -/
theorem exec_kept (c : Instr) : AnswersKept (exec c s) := by
  cases c with
  | coldReset => exact .next (coldReset_kept _ _)
  | coldResetEnd addr loadEn => exact coldResetEnd_kept h addr loadEn
  | warmReset => exact warmReset_kept h
  | warmResetEnd => exact warmResetEnd_kept h
  | loadCommit image => exact loadCommit_kept h image
  | loadFail image => exact loadFail_kept h image
  | hostRequest => exact .finish h fun _ => acceptRequest_steady _ _ h.1
  | memoryGrant => exact memoryGrant_kept h
  | hostMemoryAnswer answer => exact hostMemoryAnswer_kept h answer
  | coalesceTimerExpiry => exact .finish h fun _ => closeWrite_steady h.1
  | holdReserved => exact holdReserved_kept h
  | holdTimerExpiry => exact holdTimerExpiry_kept h
  | confirmTimerExpiry => exact .next (kept_ite (fun _ => failConfirmWait_kept h) fun _ => h)
  | linkCharacter bits => exact linkCharacter_kept h bits
  | helloReceived => exact helloReceived_kept h
  | pulseReceived => exact pulseReceived_kept h
  | ackReceived => exact ackReceived_kept h
  | nakReceived => exact nakReceived_kept h
  | frameDiscarded => exact frameDiscarded_kept h
  | recordTaken => exact recordTaken_kept h
  | applyWriteAnswer answer => exact applyWriteAnswer_kept h answer
  | frameEnd => exact .next (kept_ite (fun _ => h) fun _ => finish_kept h.1)
  | pulseTimerExpiry | helloIntervalExpiry => exact .finish h fun _ => h.1
  | retryTimerExpiry => exact .finish h fun _ => retryExpired_steady h.1
  | lossTimerExpiry => exact lossTimerExpiry_kept h
  | promoteTimerExpiry => exact .finish h fun _ => promoteExpired_steady h.1
  | drainTimerExpiry => exact drainTimerExpiry_kept h
  | handoverMarkerAppend => exact handoverMarkerAppend_kept h
  | markerAppend => exact markerAppend_kept h
  | walkerTakeBlock => exact walkerTakeBlock_kept h
  | walkerOpenSync => exact walkerOpenSync_kept h
  | walkerReadAnswer answer => exact walkerReadAnswer_kept h answer
  | autoResyncTaken => exact autoResyncTaken_kept h
  | setActive target => exact command_kept h target .setActive
  | setStandby target => exact command_kept h target .setStandby
  | setNone target => exact command_kept h target .setNone
  | handover target => exact command_kept h target .handover
  | resync target => exact command_kept h target .resync
  | restart target => exact command_kept h target .restart
  | reload target => exact command_kept h target .reload
  | clearCounters target => exact command_kept h target .clearCounters
  | eventClear target d => exact write_kept h target _ fun _ _ _ => clearFlags_kept _
  | eventRoutes target d => exact write_kept h target _ fun _ _ _ => writeRoutes_kept _
  | linkControl target d => exact write_kept h target _ fun _ _ _ => writeLinkControl_kept _
  | regionSpan target n d => exact write_kept h target _ fun _ _ _ => writeConfig_kept _ _
  | regionMode target n d => exact write_kept h target _ fun _ _ _ => writeConfig_kept _ _
  | itemWrite target item d => exact write_kept h target _ fun _ phase loader => writeOwn_kept _ _ phase loader
  | itemSelect => exact transaction_kept h _ _ fun _ => id
  | shortWrite => exact transaction_kept h _ _ fun _ => id
  | receiverResumesHunting =>
    refine .next (kept_ite (fun _ => ?_) fun _ => h)
    exact h.of (steady_rx (rx := { s.rx with receiver := .hunting }) h.1.orderly.rx h.1) rfl rfl
  | itemRead => exact transaction_kept h _ _ fun _ => id

end

/-- Settles O58: the invariant is kept by each command, and the memory port's bounds by each move of the port. -/
theorem soundKept : Obligations.SoundKept := by
  intro c s t before answers
  obtain ⟨kept, port⟩ := sound_iff.mp before
  exact sound_iff.mpr ⟨exec_kept kept c t answers, (exec_stepMoves s c t answers).ok port⟩

end Sys2Proof.Machine
end

section
/-! PROOFS. No step leaves a free serializer beside a frame that could start (R64). -/

namespace Sys2Proof.Machine

open Sys2Proof.Safety

section
variable {s t : State}

theorem settled_of_not_mayStart (h : mayStart s = false) : settled s = true := by simp [settled, h]

/-- What the scheduler reads (R30, R64): a step that leaves it alone leaves a settled unit settled. -/
theorem settled_congr (h : settled s = true) (phase : t.phase = s.phase := by simp) (tx : t.tx = s.tx := by simp)
    (link : t.pair.link = s.pair.link := by simp) (role : t.pair.role = s.pair.role := by simp)
    (partner : t.pair.partner = s.pair.partner := by simp) (stream : t.stream = s.stream := by simp)
    (records : t.list.records = s.list.records := by simp)
    (window : t.cfg.window = s.cfg.window ∨ s.pair.role = .none := by simp) : settled t = true := by
  have offered : offeredRecord t = offeredRecord s := by
    unfold offeredRecord offersRecords takesAcks sentCount
    rw [link, role, partner, stream, records]
    rcases window with same | none
    · rw [same]
    · simp [none]
  simpa [settled, mayStart, frameReady, ackReady, pulseReady, offered, phase, tx, link] using h

/-- A frame on the send pair keeps it busy (R64). -/
theorem settled_of_sending {f : Frame} (h : t.tx.serializer = .sending f) : settled t = true :=
  settled_of_not_mayStart (by simp [mayStart, h])

theorem takeHandoverRole_serializer : (takeHandoverRole s).tx.serializer = s.tx.serializer := by
  unfold takeHandoverRole
  split
  · exact changeRole_serializer _ _
  · rfl

/-- The scheduler starts a frame, or finds none ready or the send pair busy (R64). -/
theorem schedule_settled (s : State) : settled (schedule s) = true := by
  rcases schedule_cases s with ⟨busy, e⟩ | ⟨-, -, e⟩ | ⟨-, -, -, e⟩ | ⟨-, -, -, r, -, e⟩ | ⟨-, -, -, -, -, e⟩
    | ⟨-, none, e⟩ <;> rw [e]
  · exact settled_of_not_mayStart busy
  · exact settled_of_sending rfl
  · exact settled_of_sending (takeHandoverRole_serializer (s := { startFrame (ackFrame s) s with tx := _ }))
  · exact settled_of_sending rfl
  · exact settled_of_sending rfl
  · simp [settled, none]

theorem finish_settled (s : State) : settled (finish s) = true := schedule_settled _

theorem warmEnd_settled (s : State) : settled (warmEnd s) = true := schedule_settled _

theorem settled_ite {c : Prop} [Decidable c] (yes : c → settled s = true) (no : ¬ c → settled t = true) :
    settled (if c then s else t) = true := by
  split
  · exact yes ‹_›
  · exact no ‹_›

/-! ### Operations that no `finish` follows -/

theorem raise_settled (e : Event) (h : settled s = true) : settled (raise e s) = true := settled_congr h

/-- A confirm wait's end takes the waiter off the record that is offered, and changes nothing else of it (R30, R148). -/
theorem offeredRecord_endConfirmWait (r : HostResponse) : offeredRecord (endConfirmWait r s) =
    (offeredRecord s).map fun x => { x with waiter := false } := by
  have sent : sentCount (endConfirmWait r s).list = sentCount s.list :=
    List.countP_map (p := isSent) (f := fun x : Rec => { x with waiter := false }) (l := s.list.records)
  have first : (endConfirmWait r s).list.records.find? (fun x => !isSent x) =
      (s.list.records.find? fun x => !isSent x).map fun x => { x with waiter := false } := List.find?_map
  have offers : offersRecords (endConfirmWait r s) = offersRecords s := rfl
  have window : (endConfirmWait r s).cfg = s.cfg := rfl
  unfold offeredRecord
  rw [sent, first, offers, window]
  split
  · rw [Option.filter_map]
    rfl
  · rfl

theorem failConfirmWait_settled (h : settled s = true) : settled (failConfirmWait s) = true := by
  unfold failConfirmWait
  refine settled_ite (fun _ => raise_settled _ ?_) fun _ => h
  have same : settled (endConfirmWait .fault s) = settled s := by
    unfold settled frameReady
    rw [offeredRecord_endConfirmWait, Option.isSome_map]
    rfl
  exact same.trans h

/-! ### All commands -/

/-- A command that completes leaves the unit settled. -/
def AnswersSettled (outcome : Host.Outcome State Fault Refusal) : Prop :=
  ∀ t : State, outcome = .next t → settled t = true

theorem AnswersSettled.next (h : settled t = true) : AnswersSettled (.next t) := by
  rintro _ ⟨⟩
  exact h

/-- A step that ends with `finish`, or does nothing. -/
theorem AnswersSettled.finish {c : Prop} [Decidable c] (h : settled s = true) :
    AnswersSettled (.next (if c then Machine.finish t else s)) :=
  .next (settled_ite (fun _ => finish_settled t) fun _ => h)

variable (h : settled s = true)
include h

theorem coldResetEnd_settled (addr : BitVec 2) (loadEn : Bool) : AnswersSettled (execColdResetEnd addr loadEn s) := by
  have off : settled (coldStart addr loadEn s) = true := settled_of_not_mayStart rfl
  exact .next (settled_ite (fun _ => settled_ite (fun _ => off) fun _ => raise_settled _ off) fun _ => h)

theorem warmResetEnd_settled : AnswersSettled (execWarmResetEnd s) := by
  refine .next (settled_ite (fun _ => ?_) fun _ => h)
  split
  · exact h
  · exact warmEnd_settled _
  · exact settled_ite (fun _ => h) fun _ => h

theorem reportLoad_settled (detail : Detail) : settled (reportLoad detail s) = true := by
  unfold reportLoad
  exact settled_ite (fun _ => raise_settled _ (raise_settled _ h)) fun _ => raise_settled _ h

theorem loadCommit_settled (image : List Bool) : AnswersSettled (execLoadCommit image s) := by
  refine .next (settled_ite (fun _ => ?_) fun _ => h)
  split
  · exact finish_settled _
  · exact h

theorem loadFail_settled (image : List Bool) : AnswersSettled (execLoadFail image s) := by
  have failed (l : Loader) : settled { s with loader := l } = true := h
  refine .next (settled_ite (fun _ => ?_) fun _ => h)
  split
  · exact reportLoad_settled (failed _) _
  · exact reportLoad_settled (failed _) _
  · exact h

theorem hostMemoryAnswer_settled (answer : MemAnswer) : AnswersSettled (execHostMemoryAnswer answer s) := by
  refine .next ?_
  split
  · exact finish_settled _
  · exact h

theorem holdReserved_settled : AnswersSettled (execHoldReserved s) := by
  refine .next ?_
  split
  · exact settled_ite (fun _ => h) fun _ => h
  · exact h

theorem holdTimerExpiry_settled : AnswersSettled (execHoldTimerExpiry s) := by
  refine .next ?_
  split
  · exact settled_ite (fun _ => finish_settled _) fun _ => h
  · exact h

theorem badFrame_settled (next : Assembler) : settled (badFrame next s) = true := raise_settled _ h

/-- A character on the line changes nothing of the transmitter's side (R52). -/
theorem assemble_settled (sym : RxSymbol) : settled (assemble sym s) = true := by
  unfold assemble
  split
  case h_1 t data crc _ =>
    unfold assembleInFrame
    split
    · exact settled_ite (fun _ => h) fun _ => badFrame_settled h _
    · exact badFrame_settled h _
    · unfold judgeFrame
      split
      · exact settled_ite (fun _ => h) fun _ => h
      · exact badFrame_settled h _
    · exact h
    · exact badFrame_settled h _
  all_goals exact h

theorem takeCharacter_settled (bits : BitVec 12) : settled (takeCharacter bits s) = true := by
  unfold takeCharacter
  split
  · refine assemble_settled (s := characterError (stopError bits) s) ?_ _
    exact raise_settled _ h
  · exact assemble_settled h _

theorem helloReceived_settled : AnswersSettled (execHelloReceived s) := by
  refine .next ?_
  split
  · exact finish_settled _
  · exact h

theorem pulseReceived_settled : AnswersSettled (execPulseReceived s) := by
  refine .next ?_
  split
  · exact finish_settled _
  · exact h

theorem ackReceived_settled : AnswersSettled (execAckReceived s) := by
  refine .next ?_
  split
  · exact settled_ite (fun _ => finish_settled _) fun _ => h
  · exact h

theorem nakReceived_settled : AnswersSettled (execNakReceived s) := by
  refine .next ?_
  split
  · exact settled_ite (fun _ => finish_settled _) fun _ => h
  · exact h

theorem frameDiscarded_settled : AnswersSettled (execFrameDiscarded s) := by
  refine .next ?_
  split
  · exact settled_ite (fun _ => h) fun _ => h
  · exact h

theorem recordTaken_settled : AnswersSettled (execRecordTaken s) := by
  refine .next ?_
  split
  · exact settled_ite (fun _ => finish_settled _) fun _ => h
  · exact h

theorem applyWriteAnswer_settled (answer : MemAnswer) : AnswersSettled (execApplyWriteAnswer answer s) := by
  refine .next ?_
  split
  · split
    · exact finish_settled _
    · exact h
  · exact h

theorem lossTimerExpiry_settled : AnswersSettled (execLossTimerExpiry s) := by
  refine .next (settled_ite (fun _ => ?_) fun _ => h)
  split
  case h_5 | h_6 => exact h
  all_goals exact finish_settled _

theorem markerAppend_settled : AnswersSettled (execMarkerAppend s) := by
  refine .next ?_
  split
  · exact settled_ite (fun _ => finish_settled _) fun _ => h
  · exact h

/-- A block is taken without a request of the list (R125). -/
theorem walkerGoOn_settled : settled (walkerGoOn s) = true :=
  settled_ite (fun _ => settled_ite (fun _ => h) fun _ => h) fun _ => h

theorem walkerTakeBlock_settled : AnswersSettled (execWalkerTakeBlock s) := by
  refine .next (settled_ite (fun _ => ?_) fun _ => h)
  split
  next b found =>
    exact walkerGoOn_settled (s := { s with
      dirty := s.dirty.erase b
      walker := { s.walker with cursor := b, taken := true, nextChunk := 0 } }) h
  next => exact finish_settled _

theorem walkerReadAnswer_settled (answer : MemAnswer) : AnswersSettled (execWalkerReadAnswer answer s) := by
  refine .next ?_
  split
  · refine settled_ite (fun _ => h) fun _ => ?_
    cases answer <;> exact finish_settled _
  · exact h

/-! ### The management port -/

theorem doneAtOnce_settled (c : Command) : settled (doneAtOnce c s) = true := raise_settled _ h

theorem refusedAtOnce_settled (c : Command) (reason : Reason) : settled (refusedAtOnce c reason s) = true :=
  raise_settled _ h

theorem commandEffect_settled (c : Command) : settled (commandEffect c s) = true := by
  cases c with
  | setActive =>
    change settled (setActiveEffect s) = true
    unfold setActiveEffect
    split
    · exact finish_settled _
    · exact settled_ite (fun _ => refusedAtOnce_settled h _ _) fun _ => finish_settled _
    · exact doneAtOnce_settled h _
  | setStandby => exact settled_ite (fun _ => doneAtOnce_settled h _) fun _ => finish_settled _
  | setNone => exact settled_ite (fun _ => doneAtOnce_settled h _) fun _ => finish_settled _
  | handover =>
    change settled (handoverEffect s) = true
    unfold handoverEffect
    split
    · exact refusedAtOnce_settled h _ _
    · exact finish_settled _
  | resync =>
    change settled (resyncEffect s) = true
    unfold resyncEffect
    split
    · exact refusedAtOnce_settled h _ _
    · exact finish_settled _
  | restart => exact warmEnd_settled _
  | reload => exact settled_ite (fun _ => h) fun _ => refusedAtOnce_settled h _ _
  | clearCounters =>
    have zeroed : settled (zeroCounters s) = true := h
    exact doneAtOnce_settled zeroed _

theorem cancelPromote_settled : settled (cancelPromote s) = true := by
  rw [cancelPromote_eq]
  exact h

theorem takeCommand_settled (c : Command) : settled (takeCommand c (commandEffect c) s) = true := by
  have access : settled (setAccess .ok s) = true := h
  have ready : settled (if isRoleCommand c then cancelPromote (setAccess .ok s) else setAccess .ok s) = true :=
    settled_ite (fun _ => cancelPromote_settled access) fun _ => access
  exact settled_ite (fun _ => raise_settled _ ready) fun _ => commandEffect_settled ready c

/-- A window may change in role NONE alone, where nothing is offered (R30, R32). -/
theorem writeConfig_settled (item : Byte) (v : Word) : settled (writeConfig item v s) = true := by
  rcases writeConfig_cases item v s with ⟨cfg, accepted, e⟩ | ⟨a, -, e⟩ <;> rw [e]
  · refine settled_congr h rfl rfl rfl rfl rfl rfl rfl ?_
    by_cases role : s.pair.role = .none
    · exact .inr role
    · exact .inl (judgeConfig_keepsTable _ _ _ role _ accepted).2
  · exact h

theorem writeRoutes_settled (v : Word) : settled (writeRoutes v s) = true := writeConfig_settled h _ _

theorem clearFlags_settled (v : Word) : settled (clearFlags v s) = true := settled_ite (fun _ => h) fun _ => h

theorem writeOwn_settled (item : Byte) (v : Word) : settled (writeOwn item v s) = true := by
  unfold writeOwn
  split
  · exact clearFlags_settled h _
  · unfold writeCommand
    split
    · exact takeCommand_settled h _
    · exact h
  · exact settled_ite (fun _ => writeRoutes_settled h _) fun _ =>
      settled_ite (fun _ => finish_settled _) fun _ => writeConfig_settled h _ _
  · exact h

theorem transaction_settled (target : BitVec 7) (bytes : Nat) {taken : State → State}
    (kept : ∀ t : State, settled t = true → settled (taken t) = true) :
    AnswersSettled (.next (transaction target bytes taken s)) := by
  refine .next ?_
  rcases transaction_cases (s := s) target bytes taken with ⟨-, e⟩ | ⟨-, e⟩ <;> rw [e]
  · exact kept _ h
  · exact h

theorem write_settled (target : BitVec 7) (item : Byte) {own : State → State}
    (kept : ∀ t : State, settled t = true → settled (own t) = true) :
    AnswersSettled (.next (writeTransaction target item own s)) := by
  refine transaction_settled h target _ fun t ht => ?_
  dsimp only
  split
  · exact ht
  · exact settled_ite (fun _ => ht) fun _ => settled_ite (fun _ => ht) fun _ => kept _ ht

theorem command_settled (target : BitVec 7) (c : Command) :
    AnswersSettled (.next (commandTransaction target c (commandEffect c) s)) :=
  write_settled h target _ fun _ ht => takeCommand_settled ht c

/-- Every command leaves the unit settled. -/
theorem exec_settled (c : Instr) : AnswersSettled (exec c s) := by
  cases c with
  | coldReset => exact .next (settled_of_not_mayStart rfl)
  | coldResetEnd addr loadEn => exact coldResetEnd_settled h addr loadEn
  | warmReset =>
    exact .next (settled_ite (fun _ => h) fun _ => settled_ite (fun _ => h) fun _ => settled_of_not_mayStart rfl)
  | warmResetEnd => exact warmResetEnd_settled h
  | loadCommit image => exact loadCommit_settled h image
  | loadFail image => exact loadFail_settled h image
  | memoryGrant => exact .next (settled_ite (fun _ => h) fun _ => h)
  | hostMemoryAnswer answer => exact hostMemoryAnswer_settled h answer
  | holdReserved => exact holdReserved_settled h
  | holdTimerExpiry => exact holdTimerExpiry_settled h
  | confirmTimerExpiry => exact .next (settled_ite (fun _ => failConfirmWait_settled h) fun _ => h)
  | linkCharacter bits => exact .next (settled_ite (fun _ => takeCharacter_settled h bits) fun _ => h)
  | helloReceived => exact helloReceived_settled h
  | pulseReceived => exact pulseReceived_settled h
  | ackReceived => exact ackReceived_settled h
  | nakReceived => exact nakReceived_settled h
  | frameDiscarded => exact frameDiscarded_settled h
  | recordTaken => exact recordTaken_settled h
  | applyWriteAnswer answer => exact applyWriteAnswer_settled h answer
  | frameEnd => exact .next (settled_ite (fun _ => h) fun _ => finish_settled _)
  | hostRequest | coalesceTimerExpiry | pulseTimerExpiry | helloIntervalExpiry | retryTimerExpiry
  | promoteTimerExpiry | drainTimerExpiry | handoverMarkerAppend | walkerOpenSync | autoResyncTaken =>
    exact .finish h
  | lossTimerExpiry => exact lossTimerExpiry_settled h
  | markerAppend => exact markerAppend_settled h
  | walkerTakeBlock => exact walkerTakeBlock_settled h
  | walkerReadAnswer answer => exact walkerReadAnswer_settled h answer
  | setActive target => exact command_settled h target .setActive
  | setStandby target => exact command_settled h target .setStandby
  | setNone target => exact command_settled h target .setNone
  | handover target => exact command_settled h target .handover
  | resync target => exact command_settled h target .resync
  | restart target => exact command_settled h target .restart
  | reload target => exact command_settled h target .reload
  | clearCounters target => exact command_settled h target .clearCounters
  | eventClear target d => exact write_settled h target _ fun _ ht => clearFlags_settled ht _
  | eventRoutes target d => exact write_settled h target _ fun _ ht => writeRoutes_settled ht _
  | linkControl target d => exact write_settled h target _ fun _ _ => finish_settled _
  | regionSpan target n d => exact write_settled h target _ fun _ ht => writeConfig_settled ht _ _
  | regionMode target n d => exact write_settled h target _ fun _ ht => writeConfig_settled ht _ _
  | itemWrite target item d => exact write_settled h target _ fun _ ht => writeOwn_settled ht _ _
  | itemSelect | shortWrite | itemRead => exact transaction_settled h _ _ fun _ => id
  | receiverResumesHunting => exact .next (settled_ite (fun _ => h) fun _ => h)

end

/-- Settles O59: the end of a step starts the next frame, and the other effects leave alone what the scheduler reads. -/
theorem settledKept : Obligations.SettledKept := fun c _ t before answers => exec_settled before c t answers

end Sys2Proof.Machine
end

section
/-! PROOFS. What no command touches: the waiting commands, the sampled straps, the configuration, and the locked
region table. -/

namespace Sys2Proof.Machine

open Sys2Proof.Safety

/-- The commands that wait, the configuration in force and the sampled straps: what most steps leave alone. -/
def still (s : State) : List Instr × Settings × BitVec 2 × Bool :=
  (s.pending, s.cfg, s.mgmt.strapAddr, s.mgmt.strapLoadEn)

section
variable {s t u : State}

theorem still_iff : still t = still s ↔ t.pending = s.pending ∧ t.cfg = s.cfg
    ∧ t.mgmt.strapAddr = s.mgmt.strapAddr ∧ t.mgmt.strapLoadEn = s.mgmt.strapLoadEn := by
  simp [still]

theorem still_ite {c : Prop} [Decidable c] (yes : still t = still s) (no : still u = still s) :
    still (if c then t else u) = still s := by
  split
  · exact yes
  · exact no

/-! ### The shared operations -/

@[simp] theorem raise_still (e : Event) : still (raise e s) = still s := by simp [still]

@[simp] theorem failConfirmWait_still : still (failConfirmWait s) = still s := by simp [still]

@[simp] theorem pauseWalker_still : still (pauseWalker s) = still s := by simp [still]

@[simp] theorem askMarker_still (body : RecordBody) : still (askMarker body s) = still s := by simp [still]

@[simp] theorem walkerGoOn_still : still (walkerGoOn s) = still s := by simp [still]

@[simp] theorem resumeWalker_still : still (resumeWalker s) = still s := by simp [still]

@[simp] theorem resyncStart_still : still (resyncStart s) = still s := by simp [still]

@[simp] theorem spillCore_still : still (spillCore s) = still s := by simp [still]

@[simp] theorem resyncAfterSpill_still : still (resyncAfterSpill s) = still s := by simp [still]

@[simp] theorem spill_still : still (spill s) = still s := by simp [still]

@[simp] theorem resyncAbandon_still : still (resyncAbandon s) = still s := by simp [still]

@[simp] theorem endCommand_still (state : CmdState) (reason : Reason) (detail : Detail) :
    still (endCommand state reason detail s) = still s := raise_still _

@[simp] theorem cancelPromote_still : still (cancelPromote s) = still s := by
  rw [cancelPromote_eq]
  rfl

@[simp] theorem leaveUpCore_still (new : LinkState) : still (leaveUpCore new s) = still s := by simp [still]

@[simp] theorem changeRole_still (new : Role) : still (changeRole new s) = still s := by simp [still]

@[simp] theorem takeHandoverRole_still : still (takeHandoverRole s) = still s := by
  unfold takeHandoverRole
  split
  · exact changeRole_still _
  · rfl

@[simp] theorem handoverComplete_still (outcome : Detail) (epoch seq : Half) :
    still (handoverComplete outcome epoch seq s) = still s :=
  (endCommand_still _ _ _).trans (changeRole_still .standby)

@[simp] theorem handoverCancel_still (reason : Reason) : still (handoverCancel reason s) = still s :=
  endCommand_still _ _ _

@[simp] theorem handoverOffUp_still : still (handoverOffUp s) = still s := by
  unfold handoverOffUp
  split
  · split <;> simp
  · rfl

@[simp] theorem leaveUp_still (new : LinkState) : still (leaveUp new s) = still s := still_ite (by simp) rfl

@[simp] theorem loseLink_still : still (loseLink s) = still s := by simp [loseLink]

@[simp] theorem reportEnd_still (removed : List Rec) : still (reportEnd removed s) = still s :=
  still_ite (by simp [still]) rfl

@[simp] theorem reportHandover_still (removed : List Rec) : still (reportHandover removed s) = still s := by
  unfold reportHandover
  split
  · exact still_ite (by simp) rfl
  · rfl

@[simp] theorem removeBehind_still (n : Half) : still (removeBehind n s) = still s := by
  unfold removeBehind
  dsimp only
  rw [reportHandover_still, reportEnd_still]
  exact still_ite rfl rfl

@[simp] theorem takeAck_still (n : Half) : still (takeAck n s) = still s :=
  still_ite (still_ite rfl (still_ite (by simp) (leaveUp_still _))) rfl

@[simp] theorem returnSent_still : still (returnSent s) = still s := rfl

@[simp] theorem takeNak_still (n : Half) : still (takeNak n s) = still s :=
  still_ite (still_ite rfl (still_ite rfl (still_ite (by simp) (leaveUp_still _)))) rfl

@[simp] theorem enterUp_still : still (enterUp s) = still s := by
  have entered (v : State) (h : still v = still s) : still (resumeDecision v) = still s := by
    refine Eq.trans ?_ h
    exact still_ite (by simp) (by simp)
  unfold enterUp
  rw [raise_still]
  exact still_ite (entered _ cancelPromote_still) cancelPromote_still

@[simp] theorem checkHandshake_still (digest : Half) (role : Role) :
    still (checkHandshake digest role s) = still s := by
  unfold checkHandshake
  split
  · exact still_ite rfl (raise_still _)
  · exact still_ite rfl (raise_still _)
  · exact enterUp_still

@[simp] theorem disableLink_still : still (disableLink s) = still s := by
  have off : still (linkOff { s with tx := { s.tx with serializer := cutOff s.tx.serializer } }) = still s :=
    still_ite (leaveUp_still _) rfl
  exact takeHandoverRole_still.trans off

@[simp] theorem enableLink_still : still (enableLink s) = still s := rfl

@[simp] theorem followLinkControl_still (oldEnable : Bool) (oldRate : LinkRate) :
    still (followLinkControl oldEnable oldRate s) = still s := by
  unfold followLinkControl
  split
  · rfl
  · simp
  · exact still_ite rfl (by simp)
  · rfl

@[simp] theorem acceptRequest_still (req : HostReq) (counted : Bool) : still (acceptRequest req counted s) = still s := by
  simp [still]

@[simp] theorem reclassify_still (req : HostReq) (counted : Bool) : still (reclassify req counted s) = still s := by
  simp [still]

@[simp] theorem settleHold_still : still (settleHold s) = still s := by simp [still]

@[simp] theorem schedule_still : still (schedule s) = still s := by
  rcases schedule_cases s with ⟨-, e⟩ | ⟨-, -, e⟩ | ⟨-, -, -, e⟩ | ⟨-, -, -, r, -, e⟩ | ⟨-, -, -, -, -, e⟩
    | ⟨-, -, e⟩ <;> rw [e]
  · rfl
  · exact takeHandoverRole_still
  · rfl
  · rfl

@[simp] theorem finish_still : still (finish s) = still s := schedule_still.trans settleHold_still

/-! ### Loads and resets -/

@[simp] theorem reportLoad_still (detail : Detail) : still (reportLoad detail s) = still s :=
  still_ite (by simp) (by simp)

@[simp] theorem warmEffects_still : still (warmEffects s) = still s := rfl

@[simp] theorem restartLoadOrRole_still : still (restartLoadOrRole s) = still s := still_ite rfl rfl

@[simp] theorem warmEnd_still : still (warmEnd s) = still s := by
  have restarted : still (restartLoadOrRole { s with phase := .running }) = still s := restartLoadOrRole_still
  unfold warmEnd
  rw [schedule_still]
  exact still_ite restarted restarted

/-! ### The host path -/

@[simp] theorem answerUnconfirmed_still (cls : HostClass) (condemned : Bool) :
    still (answerUnconfirmed cls condemned s) = still s :=
  still_ite (still_ite rfl (raise_still _)) rfl

@[simp] theorem openOrClose_still (closes : Bool) : still (openOrClose closes s) = still s := still_ite rfl rfl

@[simp] theorem capture_still (req : HostReq) (cls : HostClass) (condemned : Bool) :
    still (capture req cls condemned s) = still s := by
  have bySpill : still (captureBySpill req cls condemned s) = still s := by
    unfold captureBySpill
    rw [answerUnconfirmed_still, resyncAfterSpill_still]
    exact spillCore_still
  have confirmed (region : BitVec 4) : still (captureConfirm req cls region condemned s) = still s := by
    unfold captureConfirm
    exact still_ite rfl (answerUnconfirmed_still _ _)
  exact still_ite (still_ite (confirmed _) bySpill)
    (still_ite (openOrClose_still _) (still_ite (openOrClose_still _) bySpill))

@[simp] theorem hostAnswer_still (answer : MemAnswer) (req : HostReq) (cls : HostClass) (condemned : Bool) :
    still (hostAnswer answer req cls condemned s) = still s := by
  have captured : still (captureAnswer req cls condemned s) = still s := by
    unfold captureAnswer
    split
    · split
      · exact answerUnconfirmed_still _ _
      · exact answerUnconfirmed_still _ _
      · exact still_ite rfl (capture_still _ _ _)
      · exact capture_still _ _ _
      · exact capture_still _ _ _
    · exact answerUnconfirmed_still _ _
  unfold hostAnswer
  split
  · split
    · exact captured
    · rfl
  · rfl

/-! ### The mirror link and pairing -/

@[simp] theorem badFrame_still (next : Assembler) : still (badFrame next s) = still s := raise_still _

@[simp] theorem assemble_still (sym : RxSymbol) : still (assemble sym s) = still s := by
  unfold assemble
  split
  case h_1 =>
    unfold assembleInFrame
    split
    · exact still_ite rfl (badFrame_still _)
    · exact badFrame_still _
    · unfold judgeFrame
      split
      · exact still_ite rfl rfl
      · exact badFrame_still _
    · rfl
    · exact badFrame_still _
  all_goals rfl

@[simp] theorem takeCharacter_still (bits : BitVec 12) : still (takeCharacter bits s) = still s := by
  unfold takeCharacter
  split
  · exact (assemble_still _).trans (raise_still _)
  · exact assemble_still _

@[simp] theorem setPartner_still (v : PartnerView) : still (setPartner v s) = still s :=
  still_ite rfl pauseWalker_still

@[simp] theorem judgeFall_still (old : PartnerView) (role : Role) (c : Consistency) :
    still (judgeFall old role c s) = still s := still_ite (raise_still _) rfl

@[simp] theorem completeByHello_still (hello : Hello) : still (completeByHello hello s) = still s := by
  unfold completeByHello
  split
  · exact still_ite (handoverComplete_still _ _ _) rfl
  · rfl

@[simp] theorem staleGuard_still (hello : Hello) : still (staleGuard hello s) = still s := by
  have abandoned : still (abandonHeld s) = still s := still_ite rfl rfl
  exact still_ite abandoned rfl

@[simp] theorem helloEffect_still (found : LinkState) (hello : Hello) : still (helloEffect found hello s) = still s := by
  cases found with
  | off | down => rfl
  | handshake | conflict | mismatch => exact still_ite (checkHandshake_still _ _) rfl
  | up => exact leaveUp_still _

@[simp] theorem takeHello_still (hello : Hello) : still (takeHello hello s) = still s := by simp [takeHello]

@[simp] theorem takePulse_still (p : Pulse) : still (takePulse p s) = still s := by
  have effect (found : LinkState) (v : State) : still (pulseEffect found p v) = still v := by
    cases found with
    | handshake => exact still_ite enterUp_still rfl
    | up => exact still_ite (takeAck_still _) rfl
    | off | down | conflict | mismatch => rfl
  simp [takePulse, effect]

@[simp] theorem retryExpired_still : still (retryExpired s) = still s := still_ite rfl loseLink_still

@[simp] theorem promoteExpired_still : still (promoteExpired s) = still s := still_ite (changeRole_still _) rfl

/-! ### The apply engine and the walker -/

@[simp] theorem askAck_still : still (askAck s) = still s := by
  rw [askAck_eq]
  rfl

@[simp] theorem recordApplied_still : still (recordApplied s) = still s := askAck_still

@[simp] theorem applyFault_still (cause : FaultCause) (seq : Half) (addr : WordAddr) :
    still (applyFault cause seq addr s) = still s := (raise_still _).trans recordApplied_still

@[simp] theorem issueWord_still (held : HeldRecord) : still (issueWord held s) = still s := by
  unfold issueWord
  split
  · rfl
  · exact recordApplied_still

@[simp] theorem applyInTurn_still (seq : Half) (body : RecordBody) : still (applyInTurn seq body s) = still s := by
  cases body with
  | data => exact still_ite (issueWord_still _) (applyFault_still _ _ _)
  | beginMark | endMark => exact recordApplied_still
  | handoverMark => exact still_ite recordApplied_still (takeHandoverRole_still.trans recordApplied_still)

@[simp] theorem judgeRecord_still (seq : Half) (body : RecordBody) : still (judgeRecord seq body s) = still s := by
  have sequenced : still (judgeSequence seq body s) = still s :=
    still_ite (applyInTurn_still _ _) (still_ite askAck_still (still_ite rfl rfl))
  unfold judgeRecord
  split
  · exact askAck_still
  · exact still_ite sequenced askAck_still
  · rfl
  · exact sequenced

@[simp] theorem applyAnswer_still (answer : MemAnswer) (held : HeldRecord) :
    still (applyAnswer answer held s) = still s := by
  cases answer <;> simp [applyAnswer]

@[simp] theorem walkerRead_still (data : Word) : still (walkerRead data s) = still s := by
  have closed (v : State) : still (chunkClosed v) = still v := still_ite rfl walkerGoOn_still
  exact still_ite rfl (closed _)

@[simp] theorem setAutoResync_still (a : AutoResync) : still (setAutoResync a s) = still s := rfl

@[simp] theorem autoResync_still : still (autoResync s) = still s := by
  unfold autoResync
  split
  · simp
  · simp
  · exact still_ite rfl (by simp)
  · rfl
  · rfl

/-! ### The management port -/

@[simp] theorem doneAtOnce_still (c : Command) : still (doneAtOnce c s) = still s := raise_still _

@[simp] theorem refusedAtOnce_still (c : Command) (reason : Reason) : still (refusedAtOnce c reason s) = still s :=
  raise_still _

@[simp] theorem commandEffect_still (c : Command) : still (commandEffect c s) = still s := by
  cases c with
  | setActive =>
    change still (setActiveEffect s) = still s
    unfold setActiveEffect
    split
    · simp
    · exact still_ite (by simp) (finish_still.trans ((doneAtOnce_still _).trans (changeRole_still _)))
    · simp
  | setStandby | setNone => exact still_ite (by simp) (by simp)
  | handover =>
    change still (handoverEffect s) = still s
    unfold handoverEffect
    split
    · simp
    · exact finish_still
  | resync =>
    change still (resyncEffect s) = still s
    unfold resyncEffect
    split <;> simp
  | restart => exact warmEnd_still.trans (doneAtOnce_still .restart)
  | reload => exact still_ite rfl (by simp)
  | clearCounters => exact doneAtOnce_still (s := zeroCounters s) .clearCounters

@[simp] theorem takeCommand_still (c : Command) : still (takeCommand c (commandEffect c) s) = still s := by
  have ready : still (if isRoleCommand c then cancelPromote (setAccess .ok s) else setAccess .ok s) = still s :=
    still_ite cancelPromote_still rfl
  exact still_ite ((raise_still _).trans ready) ((commandEffect_still c).trans ready)

@[simp] theorem clearFlags_still (v : Word) : still (clearFlags v s) = still s := still_ite rfl rfl

theorem transaction_still (target : BitVec 7) (bytes : Nat) {taken : State → State}
    (kept : ∀ v : State, still (taken v) = still v) : still (transaction target bytes taken s) = still s :=
  still_ite (kept _) rfl

theorem writeTransaction_still (target : BitVec 7) (item : Byte) {own : State → State}
    (kept : ∀ v : State, still (own v) = still v) : still (writeTransaction target item own s) = still s := by
  refine transaction_still target _ fun v => ?_
  dsimp only
  split
  · rfl
  · exact still_ite rfl (still_ite rfl (kept _))

/-! ### Writes of configuration items -/

/-- What a write of a configuration item may leave of a state: the waiting commands and the straps as they were, and,
while the unit has a role and reads no image, the region table and the window (R7, R32, R194). -/
structure Rewritten (s t : State) : Prop where
  pending : t.pending = s.pending
  strapAddr : t.mgmt.strapAddr = s.mgmt.strapAddr
  strapLoadEn : t.mgmt.strapLoadEn = s.mgmt.strapLoadEn
  table : s.loader.state ≠ .loading → s.pair.role ≠ .none → t.cfg.regions = s.cfg.regions ∧ t.cfg.window = s.cfg.window

theorem Rewritten.of_still (h : still t = still s) : Rewritten s t := by
  obtain ⟨pending, cfg, addr, loadEn⟩ := still_iff.mp h
  exact ⟨pending, addr, loadEn, fun _ _ => ⟨congrArg Settings.regions cfg, congrArg Settings.window cfg⟩⟩

/-- What goes on with the waiting commands, the configuration and the straps as the write left them. -/
theorem Rewritten.then (h : Rewritten s t) (later : still u = still t) : Rewritten s u := by
  obtain ⟨pending, cfg, addr, loadEn⟩ := still_iff.mp later
  exact ⟨pending.trans h.pending, addr.trans h.strapAddr, loadEn.trans h.strapLoadEn, by rw [cfg]; exact h.table⟩

theorem writeConfig_rewritten (item : Byte) (v : Word) (s : State) : Rewritten s (writeConfig item v s) := by
  rcases writeConfig_cases item v s with ⟨cfg, accepted, e⟩ | ⟨a, -, e⟩ <;> rw [e]
  · exact ⟨rfl, rfl, rfl, fun _ role => judgeConfig_keepsTable _ _ _ role _ accepted⟩
  · exact .of_still rfl

theorem writeRoutes_rewritten (v : Word) (s : State) : Rewritten s (writeRoutes v s) :=
  (writeConfig_rewritten _ _ _).then rfl

theorem writeLinkControl_rewritten (v : Word) (s : State) : Rewritten s (writeLinkControl v s) :=
  (writeConfig_rewritten _ _ _).then (finish_still.trans (followLinkControl_still _ _))

theorem writeOwn_rewritten (item : Byte) (v : Word) (s : State) : Rewritten s (writeOwn item v s) := by
  unfold writeOwn
  split
  · exact .of_still (clearFlags_still _)
  · unfold writeCommand
    split
    · exact .of_still (takeCommand_still _)
    · exact .of_still rfl
  · split
    · exact writeRoutes_rewritten _ _
    · split
      · exact writeLinkControl_rewritten _ _
      · exact writeConfig_rewritten _ _ _
  · exact .of_still rfl

theorem writeTransaction_rewritten (target : BitVec 7) (item : Byte) {own : State → State}
    (kept : ∀ v : State, Rewritten v (own v)) : Rewritten s (writeTransaction target item own s) := by
  have same (v : State) (pair : v.pair = s.pair) (loader : v.loader = s.loader) (before : still v = still s)
      (rewritten : Rewritten v (own v)) : Rewritten s (own v) := by
    obtain ⟨pending, addr, loadEn, table⟩ := rewritten
    obtain ⟨pending', cfg, addr', loadEn'⟩ := still_iff.mp before
    rw [cfg, pair, loader] at table
    exact ⟨pending.trans pending', addr.trans addr', loadEn.trans loadEn', table⟩
  unfold writeTransaction
  rcases transaction_cases (s := s) target (writeLength 4) _ with ⟨-, e⟩ | ⟨-, e⟩ <;> rw [e]
  · dsimp only
    split
    · exact .of_still rfl
    · split
      · exact .of_still rfl
      · split
        · exact .of_still rfl
        · exact same _ rfl rfl rfl (kept _)
  · exact .of_still rfl

/-- A commit, which only a unit that reads an image takes, replaces the configuration (R192). -/
theorem commitLoad_rewritten (staging : Settings) (loading : s.loader.state = .loading) :
    Rewritten s (commitLoad staging s) := by
  have started (v : State) : still (enterStartRole v) = still v := by
    unfold enterStartRole
    split <;> simp
  refine Rewritten.then (t := { s with cfg := staging }) ⟨rfl, rfl, rfl, fun not => absurd loading not⟩ ?_
  unfold commitLoad
  rw [reportLoad_still, started]
  exact followLinkControl_still _ _

/-! ### All commands -/

/-- The commands that may change the configuration: writes of its items, and a commit (R174, R192). -/
def rewrites : Instr → Bool
  | .eventRoutes _ _ => true
  | .linkControl _ _ => true
  | .regionSpan _ _ _ => true
  | .regionMode _ _ _ => true
  | .itemWrite _ _ _ => true
  | .loadCommit _ => true
  | _ => false

/-- A cold reset or its end, the commands that sample the straps anew (R169). -/
def colds : Instr → Bool
  | .coldReset => true
  | .coldResetEnd _ _ => true
  | _ => false

/-- A command that completes leaves what most steps leave alone. -/
def AnswersStill (s : State) (outcome : Host.Outcome State Fault Refusal) : Prop :=
  ∀ t : State, outcome = .next t → still t = still s

theorem AnswersStill.next (h : still t = still s) : AnswersStill s (.next t) := by
  rintro _ ⟨⟩
  exact h

variable (s)

theorem warmResetEnd_still : AnswersStill s (execWarmResetEnd s) := by
  refine .next (still_ite ?_ rfl)
  split
  · rfl
  · exact warmEnd_still
  · exact still_ite rfl rfl

theorem loadFail_still (image : List Bool) : AnswersStill s (execLoadFail image s) := by
  refine .next (still_ite ?_ rfl)
  split
  · exact reportLoad_still _
  · exact reportLoad_still _
  · rfl

theorem hostMemoryAnswer_still (answer : MemAnswer) : AnswersStill s (execHostMemoryAnswer answer s) := by
  refine .next ?_
  split
  · exact finish_still.trans (hostAnswer_still _ _ _ _)
  · rfl

theorem holdReserved_still : AnswersStill s (execHoldReserved s) := by
  refine .next ?_
  split
  · exact still_ite rfl rfl
  · rfl

theorem holdTimerExpiry_still : AnswersStill s (execHoldTimerExpiry s) := by
  refine .next ?_
  split
  · exact still_ite (finish_still.trans ((reclassify_still _ _).trans (spill_still.trans (raise_still _)))) rfl
  · rfl

theorem helloReceived_still : AnswersStill s (execHelloReceived s) := by
  refine .next ?_
  split
  · exact finish_still.trans (takeHello_still _)
  · rfl

theorem pulseReceived_still : AnswersStill s (execPulseReceived s) := by
  refine .next ?_
  split
  · exact finish_still.trans (takePulse_still _)
  · rfl

theorem ackReceived_still : AnswersStill s (execAckReceived s) := by
  refine .next ?_
  split
  · exact still_ite (finish_still.trans (takeAck_still _)) rfl
  · rfl

theorem nakReceived_still : AnswersStill s (execNakReceived s) := by
  refine .next ?_
  split
  · exact still_ite (finish_still.trans (takeNak_still _)) rfl
  · rfl

theorem frameDiscarded_still : AnswersStill s (execFrameDiscarded s) := by
  refine .next ?_
  split
  · exact still_ite rfl rfl
  · rfl

theorem recordTaken_still : AnswersStill s (execRecordTaken s) := by
  refine .next ?_
  split
  · exact still_ite (finish_still.trans (judgeRecord_still _ _)) rfl
  · rfl

theorem applyWriteAnswer_still (answer : MemAnswer) : AnswersStill s (execApplyWriteAnswer answer s) := by
  refine .next ?_
  split
  · split
    · exact finish_still.trans (applyAnswer_still _ _)
    · rfl
  · rfl

theorem lossTimerExpiry_still : AnswersStill s (execLossTimerExpiry s) := by
  refine .next (still_ite ?_ rfl)
  split
  · exact finish_still.trans loseLink_still
  case h_5 | h_6 => rfl
  all_goals exact finish_still

theorem markerAppend_still : AnswersStill s (execMarkerAppend s) := by
  refine .next ?_
  split
  · exact still_ite finish_still rfl
  · rfl

theorem walkerTakeBlock_still : AnswersStill s (execWalkerTakeBlock s) := by
  refine .next (still_ite ?_ rfl)
  split
  · exact walkerGoOn_still
  · exact finish_still.trans (askMarker_still _)

theorem walkerReadAnswer_still (answer : MemAnswer) : AnswersStill s (execWalkerReadAnswer answer s) := by
  refine .next ?_
  split
  · refine still_ite rfl ?_
    cases answer with
    | ok data => exact finish_still.trans (walkerRead_still data)
    | fault => exact finish_still.trans resyncAbandon_still
  · rfl

theorem command_still (target : BitVec 7) (c : Command) :
    AnswersStill s (.next (commandTransaction target c (commandEffect c) s)) :=
  .next (writeTransaction_still target _ fun _ => takeCommand_still c)

/-- A step that is no write of a configuration item, no commit, no cold reset and no end of one leaves the waiting
commands, the configuration and the straps alone. -/
theorem exec_still (c : Instr) (keeps : rewrites c = false) (warm : colds c = false) : AnswersStill s (exec c s) := by
  cases c with
  | coldReset | coldResetEnd => cases warm
  | loadCommit | eventRoutes | linkControl | regionSpan | regionMode | itemWrite => cases keeps
  | warmReset => exact .next (still_ite rfl (still_ite rfl rfl))
  | warmResetEnd => exact warmResetEnd_still s
  | loadFail image => exact loadFail_still s image
  | hostRequest => exact .next (still_ite (finish_still.trans (acceptRequest_still _ _)) rfl)
  | memoryGrant | receiverResumesHunting => exact .next (still_ite rfl rfl)
  | hostMemoryAnswer answer => exact hostMemoryAnswer_still s answer
  | coalesceTimerExpiry | pulseTimerExpiry | helloIntervalExpiry | handoverMarkerAppend | walkerOpenSync =>
    exact .next (still_ite finish_still rfl)
  | holdReserved => exact holdReserved_still s
  | holdTimerExpiry => exact holdTimerExpiry_still s
  | confirmTimerExpiry => exact .next (still_ite failConfirmWait_still rfl)
  | linkCharacter bits => exact .next (still_ite (takeCharacter_still bits) rfl)
  | helloReceived => exact helloReceived_still s
  | pulseReceived => exact pulseReceived_still s
  | ackReceived => exact ackReceived_still s
  | nakReceived => exact nakReceived_still s
  | frameDiscarded => exact frameDiscarded_still s
  | recordTaken => exact recordTaken_still s
  | applyWriteAnswer answer => exact applyWriteAnswer_still s answer
  | frameEnd => exact .next (still_ite rfl finish_still)
  | retryTimerExpiry => exact .next (still_ite (finish_still.trans retryExpired_still) rfl)
  | lossTimerExpiry => exact lossTimerExpiry_still s
  | promoteTimerExpiry => exact .next (still_ite (finish_still.trans promoteExpired_still) rfl)
  | drainTimerExpiry => exact .next (still_ite (finish_still.trans (handoverCancel_still _)) rfl)
  | markerAppend => exact markerAppend_still s
  | walkerTakeBlock => exact walkerTakeBlock_still s
  | walkerReadAnswer answer => exact walkerReadAnswer_still s answer
  | autoResyncTaken => exact .next (still_ite (finish_still.trans autoResync_still) rfl)
  | setActive target => exact command_still s target .setActive
  | setStandby target => exact command_still s target .setStandby
  | setNone target => exact command_still s target .setNone
  | handover target => exact command_still s target .handover
  | resync target => exact command_still s target .resync
  | restart target => exact command_still s target .restart
  | reload target => exact command_still s target .reload
  | clearCounters target => exact command_still s target .clearCounters
  | eventClear target d => exact .next (writeTransaction_still target _ fun _ => clearFlags_still _)
  | itemSelect | shortWrite | itemRead => exact .next (transaction_still _ _ fun _ => rfl)

theorem loadCommit_rewritten (image : List Bool) {t : State} (answers : execLoadCommit image s = .next t) :
    Rewritten s t := by
  cases answers
  split
  next reads =>
    split
    · exact (commitLoad_rewritten _ (isLoading_iff.mp reads).2.1).then finish_still
    · exact .of_still rfl
  next => exact .of_still rfl

/-- A write of a configuration item, or a commit. -/
theorem exec_rewritten (c : Instr) (writes : rewrites c = true) {t : State} (answers : exec c s = .next t) :
    Rewritten s t := by
  cases c with
  | loadCommit image => exact loadCommit_rewritten s image answers
  | eventRoutes target d =>
    cases answers
    exact writeTransaction_rewritten target _ fun _ => writeRoutes_rewritten _ _
  | linkControl target d =>
    cases answers
    exact writeTransaction_rewritten target _ fun _ => writeLinkControl_rewritten _ _
  | regionSpan target n d | regionMode target n d =>
    cases answers
    exact writeTransaction_rewritten target _ fun _ => writeConfig_rewritten _ _ _
  | itemWrite target item d =>
    cases answers
    exact writeTransaction_rewritten target _ fun _ => writeOwn_rewritten _ _ _
  | _ => cases writes

/-- A cold reset and its end leave the waiting commands alone. -/
theorem exec_colds_pending (c : Instr) (cold : colds c = true) {t : State} (answers : exec c s = .next t) :
    t.pending = s.pending := by
  cases c with
  | coldReset =>
    cases answers
    rfl
  | coldResetEnd addr loadEn =>
    cases answers
    split
    · dsimp only
      split
      · rfl
      · simp [coldStart]
    · rfl
  | _ => cases cold

/-- Every command completes. -/
theorem exec_next (c : Instr) : ∃ t, exec c s = .next t := by
  cases c <;> exact ⟨_, rfl⟩

/-- What any command but a cold reset or its end leaves of a state (R169, R174, R176). -/
theorem exec_rewritten_of_warm (c : Instr) (warm : colds c = false) {t : State} (answers : exec c s = .next t) :
    Rewritten s t := by
  by_cases writes : rewrites c = true
  · exact exec_rewritten s c writes answers
  · exact .of_still (exec_still s c (Bool.eq_false_of_not_eq_true writes) warm t answers)

end

theorem colds_eq_false {c : Instr} (reset : c ≠ .coldReset) (ends : ∀ a e, c ≠ .coldResetEnd a e) :
    colds c = false := by
  cases c with
  | coldReset => exact absurd rfl reset
  | coldResetEnd a e => exact absurd rfl (ends a e)
  | _ => rfl

/-- Settles O2: each command leaves alone what most steps leave alone, or is one of those that the statement names. -/
theorem whatNoCommandTouches : Obligations.WhatNoCommandTouches := by
  refine ⟨fun c s => ?_, fun c s t answers reset ends => ?_, fun c s t answers changed => ?_,
    fun c s t answers loading role reset ends => ?_⟩
  · obtain ⟨t, answers⟩ := exec_next s c
    refine ⟨t, answers, ?_⟩
    by_cases cold : colds c = true
    · exact exec_colds_pending s c cold answers
    · exact (exec_rewritten_of_warm s c (Bool.eq_false_of_not_eq_true cold) answers).pending
  · have kept := exec_rewritten_of_warm s c (colds_eq_false reset ends) answers
    exact ⟨kept.strapAddr, kept.strapLoadEn⟩
  · have named : rewrites c = true ∨ colds c = true := by
      by_contra neither
      simp only [not_or, Bool.not_eq_true] at neither
      exact changed (still_iff.mp (exec_still s c neither.1 neither.2 t answers)).2.1
    cases c <;> simp_all [rewrites, colds]
  · have reads : s.loader.state ≠ .loading := by simpa [loadingIsNone, role] using loading
    exact (exec_rewritten_of_warm s c (colds_eq_false reset ends) answers).table reads role

end Sys2Proof.Machine
end

section
/-! PROOFS. A step, the resets and their ends. -/

namespace Sys2Proof.Machine

open Sys2Proof.Safety

/-- Settles O1: a step looks at the queue alone to choose what runs. -/
theorem stepRunsTheFrontCommand : Obligations.StepRunsTheFrontCommand :=
  ⟨fun c rest s front => by simp [step, front], fun s idle => by simp [step, idle]⟩

/-- Settles O60: the reset state is one state, on which each test is evaluated. -/
theorem invariantsHoldAtReset : Obligations.InvariantsHoldAtReset :=
  ⟨by decide, by decide, by decide⟩

/-! ### Cold reset (R185) -/

theorem startLoader_of_loadEn {loadEn : Bool} (h : loadEn = true) (wrst : Bool) :
    (startLoader loadEn wrst).state = .loading ∧ (startLoader loadEn wrst).failIndex = 0#8
      ∧ (startLoader loadEn wrst).reading = !wrst
      ∧ (wrst = false → (startLoader loadEn wrst).portOut = bitsOfBytes [0x03#8, 0#8, 0#8]) := by
  subst h
  cases wrst <;> simp [startLoader, beginLoad, Config.loaderCommand]

theorem coldResetEnd_of_cold {s : State} (addr : BitVec 2) (loadEn : Bool) (cold : s.phase = .cold) :
    exec (.coldResetEnd addr loadEn) s =
      .next (if loadEn then coldStart addr loadEn s else raise .loadEnd (coldStart addr loadEn s)) := by
  simp [exec, execColdResetEnd, cold]

theorem withFlag_loadEnd : withFlag EventUnit.reset.flags .loadEnd = 0x2000#15 := by decide

theorem alertCondition_loadEnd_at_reset : alertCondition 0x2000#15 Settings.reset.routes = false := by decide

/-- With LOAD_EN low LOAD_END is the one flag set, its route being OFF at reset (R157, R161, R185). -/
theorem coldStart_loadEnd_events (addr : BitVec 2) (loadEn : Bool) (s : State) :
    (raise .loadEnd (coldStart addr loadEn s)).events.flags = 0x2000#15
      ∧ (raise .loadEnd (coldStart addr loadEn s)).events.alert = false := by
  have flags : withFlag (coldStart addr loadEn s).events.flags .loadEnd = 0x2000#15 := withFlag_loadEnd
  have routes : (coldStart addr loadEn s).cfg.routes = Settings.reset.routes := rfl
  rw [raise_flags, raise_alert, flags, routes]
  exact ⟨rfl, alertCondition_loadEnd_at_reset⟩

theorem regionAt_at_reset : ∀ n : BitVec 4, regionAt Settings.reset.regions n =
    { enabled := false, base := 0#16, countLess1 := 0#16, policy := .pass, guard := .opened } := by decide

/-- The values that the release of RESET leaves, whether LOAD_END follows or not (R185): what an event leaves alone. -/
def ColdStarted (addr : BitVec 2) (loadEn : Bool) (s t : State) : Prop :=
  t.phase = .running ∧ t.pending = s.pending ∧ t.wrst = s.wrst
    ∧ t.mgmt = { MgmtPort.reset with strapAddr := addr, strapLoadEn := loadEn }
    ∧ t.cfg = Settings.reset ∧ t.pair = Pairing.reset ∧ t.stream = Stream.reset ∧ t.list = ReplayList.reset
    ∧ t.host = HostPort.reset ∧ t.mem = MemPort.reset ∧ t.rx = LinkRx.reset ∧ t.tx = LinkTx.reset
    ∧ t.apply = ApplyEngine.reset ∧ t.dirty = [] ∧ t.walker = Walker.reset ∧ t.loader = startLoader loadEn s.wrst

theorem coldStart_started (addr : BitVec 2) (loadEn : Bool) (s : State) :
    ColdStarted addr loadEn s (coldStart addr loadEn s) :=
  ⟨rfl, rfl, rfl, rfl, rfl, rfl, rfl, rfl, rfl, rfl, rfl, rfl, rfl, rfl, rfl, rfl⟩

theorem raise_coldStart_started (addr : BitVec 2) (loadEn : Bool) (s : State) :
    ColdStarted addr loadEn s (raise .loadEnd (coldStart addr loadEn s)) := by
  rw [raise_plain (by decide) (by decide)]
  exact coldStart_started addr loadEn s

/-- Settles O3: the reset state and the state at the release of RESET, field by field. -/
theorem coldResetAndItsEnd : Obligations.ColdResetAndItsEnd := by
  refine ⟨fun s => ⟨_, rfl, ?_⟩, fun addr loadEn s cold => ⟨_, coldResetEnd_of_cold addr loadEn cold, ?_⟩⟩
  · refine ⟨rfl, rfl, rfl, rfl, regionAt_at_reset, ?_⟩
    repeat' apply And.intro
    all_goals rfl
  · have started : ColdStarted addr loadEn s
        (if loadEn then coldStart addr loadEn s else raise .loadEnd (coldStart addr loadEn s)) := by
      split
      · exact coldStart_started addr loadEn s
      · exact raise_coldStart_started addr loadEn s
    obtain ⟨phase, pending, wrst, mgmt, cfg, pair, stream, list, host, mem, rx, tx, apply, dirty, walker, loader⟩ :=
      started
    refine ⟨phase, pending, wrst, by rw [mgmt], by rw [mgmt], by rw [targetAddress, mgmt]; rfl, by rw [mgmt]; rfl,
      by rw [mgmt]; rfl, by rw [mgmt]; rfl, cfg, pair, stream, list, host, mem, rx, tx, apply, dirty, walker, ?_⟩
    obtain ⟨flags, alert⟩ := coldStart_loadEnd_events addr loadEn s
    rw [loader]
    cases loadEn with
    | false => exact ⟨rfl, alert, rfl, rfl, flags⟩
    | true =>
      obtain ⟨loading, index, reading, portOut⟩ := startLoader_of_loadEn rfl s.wrst
      exact ⟨index, rfl, loading, rfl, fun released => ⟨reading.trans (by simp [released]), portOut released⟩,
        fun asserted => reading.trans (by simp [asserted])⟩

/-! ### Warm reset (R186) -/

theorem warmReset_of_asserted {s : State} (asserted : s.wrst = true) : exec .warmReset s = .next s := by
  simp [exec, execWarmReset, asserted]

theorem warmReset_of_released {s : State} (released : s.wrst = false) (warm : s.phase ≠ .cold) :
    exec .warmReset s = .next { warmEffects s with phase := .warm, wrst := true } := by
  simp [exec, execWarmReset, released, warm]

theorem warmLoader_loading {l : Loader} (loading : l.state = .loading) :
    warmLoader l = { state := .loading, failIndex := 0#8, reading := false, portOut := [] } := if_pos loading

theorem warmLoader_other {l : Loader} (other : l.state ≠ .loading) : warmLoader l = l := if_neg other

theorem warmHost_common (s : State) :
    (warmHost s).confirmTimer = none ∧ (warmHost s).lastGuardAddr = 0#22 := by
  unfold warmHost
  split <;> exact ⟨rfl, rfl⟩

theorem warmHost_of_held {s : State} {hold : HoldKind} {req : HostReq} {cls : HostClass} {counted : Bool}
    (port : s.host.port = .held hold req cls counted) : warmHost s = { HostPort.reset with response := some .fault } := by
  simp [warmHost, port]

theorem warmHost_of_withheld {s : State} {req : HostReq} (port : s.host.port = .withheld req) :
    warmHost s = { HostPort.reset with response := some .fault } := by
  simp [warmHost, port]

theorem warmHost_of_forwarded {s : State} {req : HostReq} {cls : HostClass} {condemned : Bool}
    (port : s.host.port = .forwarded req cls condemned) : (warmHost s).port =
      .forwarded req cls (condemned || (s.list.reserved && isMirrored req cls && cls.policy == .confirm)) := by
  simp [warmHost, port]

/-- A CONFIRM write that holds the reservation is mirrored by its policy (R3, R149). -/
theorem condemns_iff (reserved condemned : Bool) (req : HostReq) (cls : HostClass) :
    (condemned || (reserved && isMirrored req cls && cls.policy == .confirm)) = true ↔
      condemned = true ∨ (reserved = true ∧ req.kind = .write ∧ cls.role = .active ∧ cls.policy = .confirm) := by
  have mirrors : cls.policy = .confirm → cls.policy.mirrors = true := fun policy => by simp [policy, Policy.mirrors]
  simp only [isMirrored, isMirroredWrite, Bool.or_eq_true, Bool.and_eq_true, beq_iff_eq]
  tauto

/-- Settles O4: a warm reset, block by block. -/
theorem warmResetValues : Obligations.WarmResetValues := by
  refine ⟨fun s => warmReset_of_asserted, fun s released warm => ⟨_, warmReset_of_released released warm, ?_⟩⟩
  obtain ⟨confirm, guardAddr⟩ := warmHost_common s
  refine ⟨rfl, rfl, rfl, rfl, rfl, rfl, rfl, rfl, rfl, warmLoader_other, fun loading => ?_, rfl, rfl, rfl, rfl, rfl,
    rfl, rfl, rfl, rfl, rfl, rfl, rfl, rfl, rfl, rfl, rfl, fun f sending => ?_, fun free => ?_, rfl, rfl,
    fun r bus => ?_, fun op b bus => ?_, confirm, guardAddr, fun hold req cls counted port => ?_, fun req port => ?_,
    fun req cls condemned port => ⟨_, warmHost_of_forwarded port, condemns_iff _ _ _ _⟩⟩
  · rw [show (warmEffects s).loader = warmLoader s.loader from rfl, warmLoader_loading loading]
    exact ⟨rfl, rfl, rfl⟩
  · simp [warmEffects, sending, cutOff]
  · simp [warmEffects, free, cutOff]
  · simp [withdrawn, bus]
  · simp [withdrawn, bus]
  · simp [warmEffects, warmHost_of_held port, HostPort.reset]
  · simp [warmEffects, warmHost_of_withheld port, HostPort.reset]

/-! ### The end of a warm reset (R185, R186, R195) -/

/-- What the end of a warm reset leaves: the first HELLO starts on a free serializer where the link is enabled. -/
theorem warmEnd_eq {s : State} (off : s.pair.link = .off) : warmEnd s =
    let t := restartLoadOrRole { s with phase := .running }
    if s.cfg.linkEnable then
      if s.tx.serializer = .free then startHello (enableLink t) else enableLink t
    else t := by
  have kept : (restartLoadOrRole { s with phase := .running }).cfg = s.cfg
      ∧ (restartLoadOrRole { s with phase := .running }).tx = s.tx
      ∧ (restartLoadOrRole { s with phase := .running }).phase = .running
      ∧ (restartLoadOrRole { s with phase := .running }).pair.link = .off := by
    unfold restartLoadOrRole
    split <;> exact ⟨rfl, rfl, rfl, off⟩
  unfold warmEnd
  dsimp only
  generalize restartLoadOrRole { s with phase := .running } = t at kept
  obtain ⟨cfg, tx, phase, link⟩ := kept
  rw [cfg]
  split
  · by_cases free : s.tx.serializer = .free
    · simp [schedule, mayStart, enableLink, enterLink, phase, tx, free]
    · simp [schedule, mayStart, enableLink, enterLink, tx, free]
  · simp [schedule, mayStart, link]

/-- The parts that the end of a warm reset leaves alone. -/
theorem warmEnd_keeps {s : State} (off : s.pair.link = .off) :
    (warmEnd s).phase = .running ∧ (warmEnd s).wrst = s.wrst ∧ (warmEnd s).cfg = s.cfg
      ∧ (warmEnd s).events = s.events ∧ (warmEnd s).mgmt = s.mgmt ∧ (warmEnd s).list = s.list
      ∧ (warmEnd s).host = s.host ∧ (warmEnd s).mem = s.mem ∧ (warmEnd s).dirty = s.dirty
      ∧ (warmEnd s).walker = s.walker := by
  have kept : let t := restartLoadOrRole { s with phase := .running }
      t.phase = .running ∧ t.wrst = s.wrst ∧ t.cfg = s.cfg ∧ t.events = s.events ∧ t.mgmt = s.mgmt ∧ t.list = s.list
        ∧ t.host = s.host ∧ t.mem = s.mem ∧ t.dirty = s.dirty ∧ t.walker = s.walker := by
    unfold restartLoadOrRole
    split <;> exact ⟨rfl, rfl, rfl, rfl, rfl, rfl, rfl, rfl, rfl, rfl⟩
  rw [warmEnd_eq off]
  dsimp only
  generalize restartLoadOrRole { s with phase := .running } = t at kept
  split
  · split <;> exact kept
  · exact kept

/-- Loader, role, stream and standby state are as the restarted load or the START_ROLE leaves them. -/
theorem warmEnd_restarted {s : State} (off : s.pair.link = .off) :
    (warmEnd s).loader = (restartLoadOrRole s).loader ∧ (warmEnd s).pair.role = (restartLoadOrRole s).pair.role
      ∧ (warmEnd s).stream = (restartLoadOrRole s).stream ∧ (warmEnd s).apply = (restartLoadOrRole s).apply := by
  have same : let t := restartLoadOrRole { s with phase := .running }
      t.loader = (restartLoadOrRole s).loader ∧ t.pair.role = (restartLoadOrRole s).pair.role
      ∧ t.stream = (restartLoadOrRole s).stream ∧ t.apply = (restartLoadOrRole s).apply := by
    unfold restartLoadOrRole
    dsimp only
    split <;> exact ⟨rfl, rfl, rfl, rfl⟩
  rw [warmEnd_eq off]
  dsimp only
  generalize restartLoadOrRole { s with phase := .running } = t at same
  split
  · split <;> exact same
  · exact same

/-- The restarted load or the START_ROLE leaves the transmitter and the link alone (R186). -/
theorem restartLoadOrRole_link (s : State) : (restartLoadOrRole s).pair.link = s.pair.link
    ∧ (restartLoadOrRole s).tx = s.tx ∧ (restartLoadOrRole s).cfg = s.cfg := by
  unfold restartLoadOrRole
  split <;> exact ⟨rfl, rfl, rfl⟩

theorem warmEnd_link_of_disabled {s : State} (off : s.pair.link = .off) (disabled : s.cfg.linkEnable = false) :
    (warmEnd s).pair.link = .off ∧ (warmEnd s).tx = s.tx := by
  obtain ⟨link, tx, -⟩ := restartLoadOrRole_link { s with phase := .running }
  rw [warmEnd_eq off, disabled]
  exact ⟨link.trans off, tx⟩

/-- The link of an enabled unit enters DOWN at the end of a warm reset (R69, R77, R186). -/
theorem warmEnd_link_of_enabled {s : State} (off : s.pair.link = .off) (enabled : s.cfg.linkEnable = true) :
    (warmEnd s).pair.link = .down ∧ (warmEnd s).rx.receiver = .hunting ∧ (warmEnd s).rx.buffer = []
      ∧ (warmEnd s).pair.helloTimer = some s.cfg.helloInterval.toNat
      ∧ (s.tx.serializer = .free → ∃ h : Hello, (warmEnd s).tx.serializer = .sending (.hello h)
          ∧ (warmEnd s).tx.helloDue = false ∧ h.role = (warmEnd s).pair.role ∧ h.seen = false)
      ∧ (s.tx.serializer ≠ .free → (warmEnd s).tx.serializer = s.tx.serializer ∧ (warmEnd s).tx.helloDue = true) := by
  obtain ⟨link, tx, cfg⟩ := restartLoadOrRole_link { s with phase := .running }
  rw [warmEnd_eq off, enabled]
  dsimp only
  generalize restartLoadOrRole { s with phase := .running } = t at link tx cfg
  have timer : helloTimerAt .down { t with rx := clearedRx .hunting t.rx } = some s.cfg.helloInterval.toNat := by
    simp [helloTimerAt, link, off, cfg]
  by_cases free : s.tx.serializer = .free
  · rw [if_pos rfl, if_pos free]
    refine ⟨rfl, rfl, rfl, congrArg (fun c : Settings => some c.helloInterval.toNat) cfg,
      fun _ => ⟨helloNow (enableLink t), rfl, rfl, rfl, rfl⟩, fun busy => absurd free busy⟩
  · rw [if_pos rfl, if_neg free]
    have serializer : t.tx.serializer = s.tx.serializer := by rw [tx]
    exact ⟨rfl, rfl, rfl, timer, fun now => absurd now free, fun _ => ⟨serializer, rfl⟩⟩

theorem warmResetEnd_of_warm {s : State} (asserted : s.wrst = true) (warm : s.phase = .warm) :
    exec .warmResetEnd s = .next (warmEnd { s with wrst := false }) := by
  simp [exec, execWarmResetEnd, asserted, warm]

/-- Settles O5: the end of a warm reset enters role and link; after a cold reset the release begins the load. -/
theorem warmResetEndEntersRoleAndLink : Obligations.WarmResetEndEntersRoleAndLink := by
  refine ⟨fun s warm asserted role off => ⟨_, warmResetEnd_of_warm asserted warm, ?_⟩,
    fun s => ⟨fun released => ?_, fun asserted running loading waits => ?_, fun asserted other => ?_⟩⟩
  · obtain ⟨phase, wrst, cfg, events, mgmt, list, host, mem, dirty, walker⟩ :=
      warmEnd_keeps (s := { s with wrst := false }) off
    obtain ⟨loader, role', stream, apply⟩ := warmEnd_restarted (s := { s with wrst := false }) off
    refine ⟨phase, wrst, cfg, events, mgmt, list, host, mem, dirty, walker, fun loading => ?_, fun other => ?_,
      warmEnd_link_of_disabled (s := { s with wrst := false }) off,
      warmEnd_link_of_enabled (s := { s with wrst := false }) off⟩
    · have restarted : restartLoadOrRole { s with wrst := false } =
          { s with wrst := false, loader := beginLoad s.loader } := if_pos loading
      rw [loader, role', restarted]
      exact ⟨role, rfl, rfl, rfl⟩
    · have entered : restartLoadOrRole { s with wrst := false } =
          enterRole s.cfg.startRole { s with wrst := false } := if_neg other
      rw [loader, role', stream, apply, entered]
      exact ⟨rfl, rfl, rfl, rfl, rfl, rfl, rfl⟩
  · simp [exec, execWarmResetEnd, released]
  · simp [exec, execWarmResetEnd, asserted, running, loading, waits, beginLoad, Config.loaderCommand]
  · rcases other with cold | ⟨running, other | reads⟩
    · simp [exec, execWarmResetEnd, asserted, cold]
    · simp [exec, execWarmResetEnd, asserted, running, other]
    · simp [exec, execWarmResetEnd, asserted, running, reads]

/-! ### RESTART (R181) -/

/-- A warm reset drops what the command slot last held, and the flags with it (R186). -/
theorem warmEffects_doneAtOnce (s : State) : warmEffects (doneAtOnce .restart { s with
    mgmt := { s.mgmt with acked := 6, selected := 0x50#8, access := .ok } }) =
    { warmEffects s with mgmt := { (warmEffects s).mgmt with acked := 6 } } := by
  rw [doneAtOnce, raise_plain (by decide) (by decide)]
  rfl

/-- The end of a warm reset does not look at what its transaction acknowledged (R186). -/
theorem warmEnd_acked (s : State) (n : Nat) (off : s.pair.link = .off) :
    warmEnd { s with mgmt := { s.mgmt with acked := n } } =
      { warmEnd s with mgmt := { (warmEnd s).mgmt with acked := n } } := by
  have restarted : restartLoadOrRole { s with phase := .running, mgmt := { s.mgmt with acked := n } } =
      let t := restartLoadOrRole { s with phase := .running }
      { t with mgmt := { t.mgmt with acked := n } } := by
    unfold restartLoadOrRole
    dsimp only
    split <;> rfl
  rw [warmEnd_eq off, warmEnd_eq (s := { s with mgmt := { s.mgmt with acked := n } }) off, restarted]
  dsimp only
  split
  · split <;> rfl
  · rfl

/-- Settles O6: after the command's result, RESTART takes the two effects of the pin one after the other. -/
theorem restartIsAWarmReset : Obligations.RestartIsAWarmReset := by
  intro target s addressed reads ended
  have phase : s.phase = .running ∧ s.wrst = false := by
    simp only [acknowledges, Bool.and_eq_true, beq_iff_eq, Bool.not_eq_true'] at addressed
    exact addressed.1
  refine ⟨_, _, warmReset_of_released phase.2 (by simp [phase.1]), warmResetEnd_of_warm rfl rfl, ?_⟩
  have taken : exec (.restart target) s = .next (warmEnd (warmEffects (doneAtOnce .restart { s with
      mgmt := { s.mgmt with acked := 6, selected := 0x50#8, access := .ok } }))) := by
    change Host.Outcome.next (commandTransaction target .restart restartEffect s) = _
    rw [commandTransaction, writeTransaction_own _ _ addressed itemKind_command (by decide) reads,
      takeCommand_own (s := { s with mgmt := { s.mgmt with acked := 6, selected := 0x50#8 } }) _ _ ended]
    rfl
  have released : warmEffects s = { warmEffects s with wrst := false } := by simp [warmEffects, phase.2]
  rw [taken, warmEffects_doneAtOnce, warmEnd_acked _ _ rfl, released]
  rfl

end Sys2Proof.Machine
end

section
/-! PROOFS. The configuration image: its fields, its staging, and the ends of a load. -/

namespace Sys2Proof.Machine

open Sys2Proof.Safety

/-! ### Fields of the image (11.3) -/

theorem halfOf_bytes (h : Half) : halfOf (h.extractLsb' 8 8) (h.extractLsb' 0 8) = h := by
  apply BitVec.eq_of_getLsbD_eq
  intro i hi
  simp only [halfOf, BitVec.getLsbD_append, BitVec.getLsbD_extractLsb']
  split
  · simp [*]
  · have : i - 8 < 8 := by omega
    simp [this, show 8 + (i - 8) = i by omega]

theorem wordOf_bytes (w : Word) : wordOf (w.extractLsb' 24 8) (w.extractLsb' 16 8) (w.extractLsb' 8 8)
    (w.extractLsb' 0 8) = w := valueOf_bytes w

theorem length_entryBytes (e : Byte × Word) : (entryBytes e).length = 5 := rfl

theorem length_flatMap_entryBytes (entries : List (Byte × Word)) :
    (entries.flatMap entryBytes).length = 5 * entries.length := by
  induction entries with
  | nil => rfl
  | cons e rest ih => simp [ih, length_entryBytes]; omega

/-- The entries of an image are read back from their bytes (11.3). -/
theorem entriesOf_entryBytes (entries : List (Byte × Word)) (padding : List Byte) :
    entriesOf entries.length (entries.flatMap entryBytes ++ padding) = entries := by
  induction entries with
  | nil => rfl
  | cons e rest ih =>
    obtain ⟨item, value⟩ := e
    simp [entryBytes, wordBytes, entriesOf, wordOf_bytes, ih]

/-- An image begins with its signature, its count and its check (11.3). -/
theorem judgeImage_header (cfg : Settings) (b₀ b₁ b₂ b₃ : Byte) (count check : Half) (rest : List Byte) :
    ∃ padding, judgeImage cfg (bitsOfBytes ([b₀, b₁, b₂, b₃] ++ halfBytes count ++ halfBytes check ++ rest)) =
      if [b₀, b₁, b₂, b₃] ≠ [0x4D#8, 0x52#8, 0x49#8, 0x4D#8] then .absent
      else if count.toNat = 0 ∨ 255 < count.toNat then .failed 0#8
      else if crc16 ((rest ++ padding).take (5 * count.toNat)) ≠ check then .failed 0#8
      else stage 1 cfg (entriesOf count.toNat (rest ++ padding)) := by
  unfold judgeImage
  rw [deliveredBytes_bitsOfBytes]
  generalize bytesOfBits (List.replicate _ Config.pulledUpBit) = padding
  refine ⟨padding, ?_⟩
  simp only [halfBytes, List.cons_append, List.nil_append, judgeBytes, halfOf_bytes]

/-- Settles O7: the fields of the image are read back, and its entries are staged from the first. -/
theorem imageStagedEntryByEntry : Obligations.ImageStagedEntryByEntry := by
  intro cfg entries some most
  have count : (BitVec.ofNat 16 entries.length).toNat = entries.length := by
    rw [BitVec.toNat_ofNat]
    omega
  obtain ⟨padding, judged⟩ := judgeImage_header cfg 0x4D#8 0x52#8 0x49#8 0x4D#8 (BitVec.ofNat 16 entries.length)
    (crc16 (entries.flatMap entryBytes)) (entries.flatMap entryBytes)
  rw [imageOf, judged, count, entriesOf_entryBytes, ← length_flatMap_entryBytes, List.take_left]
  rw [if_neg (by simp), if_neg (by omega), if_neg (by simp)]

/-! ### Staging (R191) -/

/-- Staging goes on from what the first entries have staged, with the number of the next. -/
theorem stage_append {k : Nat} {cfg staging : Settings} {before : List (Byte × Word)}
    (staged : stage k cfg before = .commits staging) (rest : List (Byte × Word)) :
    stage k cfg (before ++ rest) = stage (k + before.length) staging rest := by
  induction before generalizing k cfg with
  | nil =>
    cases staged
    rfl
  | cons e before ih =>
    obtain ⟨item, v⟩ := e
    simp only [stage, List.cons_append, List.length_cons] at staged ⊢
    split at staged
    next cfg' accepted => rw [ih staged, Nat.add_right_comm, Nat.add_assoc]
    next => cases staged

/-- Bits that the pull-up gives are bytes of ones (R188). -/
theorem bytesOfBits_pulledUp (n : Nat) : bytesOfBits (List.replicate (8 * n) Config.pulledUpBit) =
    List.replicate n 0xFF#8 := by
  induction n with
  | zero => rfl
  | succ n ih =>
    have byte : List.replicate (8 * (n + 1)) Config.pulledUpBit =
        List.replicate 8 Config.pulledUpBit ++ List.replicate (8 * n) Config.pulledUpBit := by
      rw [← List.replicate_add, Nat.mul_add, Nat.add_comm]
    rw [byte, List.replicate_succ (n := n), ← ih]
    rfl

/-- An absent memory delivers no signature (R189). -/
theorem judgeImage_nil (cfg : Settings) : judgeImage cfg [] = .absent := by
  have delivered : deliveredBytes [] = List.replicate maxImageBytes 0xFF#8 := bytesOfBits_pulledUp maxImageBytes
  have header (bytes : List Byte) : judgeBytes cfg (List.replicate 8 0xFF#8 ++ bytes) = .absent := by
    simp [List.replicate_succ, judgeBytes]
  rw [judgeImage, delivered, show maxImageBytes = 8 + 1275 from rfl, List.replicate_add]
  exact header _

theorem itemKind_config_iff (item : Byte) : itemKind item = some .config ↔ item.toNat = 0x32 ∨ item.toNat = 0x38
    ∨ (0x40 ≤ item.toNat ∧ item.toNat ≤ 0x4C) ∨ (0x60 ≤ item.toNat ∧ item.toNat ≤ 0x7F) := by
  unfold itemKind
  dsimp only
  split
  · simp
    omega
  · split
    · simp
      omega
    · split
      · simp
        omega
      · split <;> simp_all

/-- An item that is none of the configuration is refused, whatever the value (R191). -/
theorem judgeConfig_of_other {item : Byte} (other : itemKind item ≠ some .config) (staging : Settings) (v : Word) :
    ∃ a, judgeConfig .none staging item v = .error a := by
  rw [ne_eq, itemKind_config_iff] at other
  have number (n : Nat) (hn : n < 256) (h : item = BitVec.ofNat 8 n) : item.toNat = n := by
    rw [h, BitVec.toNat_ofNat]
    omega
  unfold judgeConfig
  rw [if_neg fun h => other (.inl (number 0x32 (by decide) h)),
    if_neg fun h => other (.inr (.inl (number 0x38 (by decide) h))), if_neg (by omega)]
  unfold judgeSetting
  split
  case h_14 => exact ⟨_, rfl⟩
  all_goals omega

/-- Settles O8: staging stops at the first refusal, and the header is judged field by field. -/
theorem imagesRefused : Obligations.ImagesRefused := by
  refine ⟨fun cfg before after item v staging a short staged => ⟨fun refused => ?_, fun staging' accepted => ?_⟩,
    fun cfg b₀ b₁ b₂ b₃ count check rest => ?_, fun staging item v =>
      ⟨itemKind_config_iff item, fun other => judgeConfig_of_other other staging v⟩⟩
  · simp [stage_append staged, stage, refused, Nat.add_comm]
  · simp [stage_append staged, stage, accepted]
  · obtain ⟨padding, judged⟩ := judgeImage_header cfg b₀ b₁ b₂ b₃ count check rest
    refine ⟨judgeImage_nil cfg, fun other => judged.trans (if_pos other), fun signed => ?_⟩
    rw [judged, if_neg (by simpa using signed)]
    refine ⟨fun bad => if_pos (bad.imp (fun zero => by simp [zero]) id), fun least most whole wrong => ?_⟩
    rw [if_neg (by omega), List.take_append_of_le_length whole, if_pos wrong]

/-! ### The end of a step on a unit that streams nothing -/

section
variable {s : State} (quiet : s.stream.mode = .closed ∨ s.pair.role ≠ .active)
include quiet

/-- On a unit that streams nothing, with no handover pending, the scheduler touches only the transmitter and the HELLO
timer. -/
theorem schedule_of_quiet (pending : s.apply.handoverPending = none) :
    ∃ tx timer, schedule s = { s with tx := tx, pair := { s.pair with helloTimer := timer } } := by
  have unoffered : offeredRecord s = none := by
    rcases quiet with closed | inactive
    · simp [offeredRecord, offersRecords, takesAcks, closed]
    · simp [offeredRecord, offersRecords, takesAcks, inactive]
  rcases schedule_cases s with ⟨-, e⟩ | ⟨-, -, e⟩ | ⟨-, -, -, e⟩ | ⟨-, -, -, r, offered, -⟩ | ⟨-, -, -, -, -, e⟩
    | ⟨-, -, e⟩
  · exact ⟨s.tx, s.pair.helloTimer, e⟩
  · exact ⟨_, _, e⟩
  · have started : startAck s = { s with
        tx := { (startFrame (ackFrame s) s).tx with ackRequest := .none } } := by
      simp only [startAck, takeHandoverRole, startFrame, pending]
    exact ⟨_, s.pair.helloTimer, e.trans started⟩
  · simp [unoffered] at offered
  · exact ⟨_, s.pair.helloTimer, e⟩
  · exact ⟨s.tx, s.pair.helloTimer, e⟩

/-- On a unit that streams nothing a held write is classified again, which touches the host port, the hold timer and, by
a guard's refusal, the events. -/
theorem settleHold_of_quiet : ∃ host timer events,
    settleHold s = { s with host := host, list := { s.list with holdTimer := timer }, events := events }
      ∧ ∀ e, flagSet s.events.flags e = true → flagSet events.flags e = true := by
  have reclassified (req : HostReq) (counted : Bool) : ∃ host timer events,
      reclassify req counted s = { s with host := host, list := { s.list with holdTimer := timer }, events := events }
        ∧ ∀ e, flagSet s.events.flags e = true → flagSet events.flags e = true := by
    unfold reclassify acceptRequest
    split
    · exact ⟨_, _, s.events, rfl, fun _ => id⟩
    · exact ⟨_, _, s.events, rfl, fun _ => id⟩
    · split
      · rw [refuse, raise_plain (by decide) (by decide)]
        exact ⟨_, _, _, rfl, fun e set => flagSet_withFlag_of_flagSet .guardHit set⟩
      · exact ⟨_, _, s.events, rfl, fun _ => id⟩
    next role =>
      split
      · have closed : s.stream.mode = .closed := quiet.resolve_right (not_not_intro role)
        simp only [acceptMirrored, closed]
        exact ⟨_, _, s.events, rfl, fun _ => id⟩
      · exact ⟨_, _, s.events, rfl, fun _ => id⟩
  have idle : (s.pair.role == .active && (s.stream.mode == .normal || s.stream.mode == .resync)) = false
      ∧ (s.pair.role == .active && s.stream.mode == .draining) = false := by
    rcases quiet with closed | inactive
    · simp [closed]
    · simp [inactive]
  unfold settleHold
  split
  · rw [idle.1]
    exact reclassified _ _
  · rw [idle.2]
    exact reclassified _ _
  · exact ⟨s.host, s.list.holdTimer, s.events, rfl, fun _ => id⟩

/-- The end of a step on a unit that streams nothing, with no handover pending: the host port is as the held write leaves
it, and the transmitter, the HELLO timer, the hold timer and the events are all else that may change. -/
theorem finish_of_quiet (pending : s.apply.handoverPending = none) : ∃ holdTimer events tx helloTimer,
    finish s = { s with host := (settleHold s).host, list := { s.list with holdTimer := holdTimer }, events := events
                        tx := tx, pair := { s.pair with helloTimer := helloTimer } }
      ∧ ∀ e, flagSet s.events.flags e = true → flagSet events.flags e = true := by
  obtain ⟨host, timer, events, settled, flags⟩ := settleHold_of_quiet quiet
  obtain ⟨tx, helloTimer, e⟩ := schedule_of_quiet (s := settleHold s) (by simpa [settled] using quiet)
    (by simpa [settled] using pending)
  refine ⟨timer, events, tx, helloTimer, ?_, flags⟩
  rw [finish, e, settled]

end

section
variable {s : State}

/-! ### The commit of a load (R192) -/

/-- A disable with no handover under way and none pending turns the link OFF and empties what the link holds (R70). -/
theorem disableLink_of_plain_link (pending : s.apply.handoverPending = none) (idle : handoverRunning s = false) :
    (disableLink s).pair.link = .off ∧ (disableLink s).pair.partner = PartnerView.cleared
      ∧ (disableLink s).rx.receiver = .notWatching ∧ (disableLink s).stream = s.stream
      ∧ (s.list.records = [] → (disableLink s).list.records = []) := by
  have off : ∀ u : State, u.apply.handoverPending = none → handoverRunning u = false →
      (linkOff u).pair.link = .off ∧ (linkOff u).apply = u.apply ∧ (linkOff u).stream = u.stream
        ∧ (u.list.records = [] → (linkOff u).list.records = []) := by
    intro u pending idle
    unfold linkOff
    split
    next up =>
      rw [leaveUp_of_plain _ pending idle]
      refine ⟨by rw [leaveUpCore_pair _ _ up], by simp, by simp, fun empty => ?_⟩
      rw [leaveUpCore_list _ _ up]
      simp [empty, clearWaiters]
    next => exact ⟨rfl, rfl, rfl, id⟩
  obtain ⟨link, apply, stream, records⟩ :=
    off { s with tx := { s.tx with serializer := cutOff s.tx.serializer } } pending idle
  unfold disableLink
  rw [takeHandoverRole]
  simp only [apply, pending]
  exact ⟨link, trivial, rfl, stream, records⟩

/-- The link follows a commit: what the stream and an empty list are stays (R192). -/
theorem followLinkControl_of_plain_stream (oldEnable : Bool) (oldRate : LinkRate)
    (pending : s.apply.handoverPending = none) (idle : handoverRunning s = false) :
    (followLinkControl oldEnable oldRate s).stream = s.stream
      ∧ (s.list.records = [] → (followLinkControl oldEnable oldRate s).list.records = []) := by
  obtain ⟨-, -, -, stream, records⟩ := disableLink_of_plain_link pending idle
  unfold followLinkControl
  split
  · exact ⟨rfl, id⟩
  · exact ⟨stream, records⟩
  · split
    · exact ⟨rfl, id⟩
    · exact ⟨stream, records⟩
  · exact ⟨rfl, id⟩

theorem enterStartRole_role (role : s.pair.role = .none) : (enterStartRole s).pair.role = s.cfg.startRole := by
  unfold enterStartRole
  split <;> simp_all

/-- START_ROLE leaves a link that is neither UP nor in a conflict, and the partner view and the receiver (R74). -/
theorem enterStartRole_keeps (s : State) : (enterStartRole s).pair.partner = s.pair.partner
    ∧ (enterStartRole s).rx = s.rx ∧ (enterStartRole s).loader = s.loader ∧ (enterStartRole s).mgmt = s.mgmt
    ∧ (enterStartRole s).cfg = s.cfg := by
  unfold enterStartRole
  split <;> simp

theorem enterStartRole_link (quiet : s.pair.link = .off ∨ s.pair.link = .down ∨ s.cfg.startRole = .none) :
    (enterStartRole s).pair.link = s.pair.link := by
  unfold enterStartRole
  split
  · rfl
  · rcases quiet with link | link | none
    · simp [changeRole_link, link]
    · simp [changeRole_link, link]
    · simp_all
  · rcases quiet with link | link | none
    · simp [changeRole_link, link]
    · simp [changeRole_link, link]
    · simp_all

theorem enterStartRole_stream (closed : s.stream.mode = .closed ∧ s.stream.isOpen = false) :
    (enterStartRole s).stream.mode = .closed ∧ (enterStartRole s).stream.isOpen = false := by
  unfold enterStartRole
  split
  · exact closed
  · simp
  · simp

theorem enterStartRole_apply (fresh : s.apply.heldEpoch = none ∧ s.apply.consistency = .inconsistent
    ∧ s.apply.handoverPending = none) : (enterStartRole s).apply.heldEpoch = none
      ∧ (enterStartRole s).apply.consistency = .inconsistent ∧ (enterStartRole s).apply.handoverPending = none := by
  unfold enterStartRole
  split
  · exact fresh
  · simp [ApplyEngine.reset]
  · simp [ApplyEngine.reset]

theorem enterStartRole_records (empty : s.list.records = []) : (enterStartRole s).list.records = [] := by
  unfold enterStartRole
  split
  · exact empty
  · exact changeRole_records _ _ empty
  · exact changeRole_records _ _ empty

theorem enterStartRole_roleChanged (enters : s.cfg.startRole ≠ .none) :
    flagSet (enterStartRole s).events.flags .roleChanged = true := by
  unfold enterStartRole
  split
  · contradiction
  · simp
  · simp

/-- The outcome of a load is reported in flags and result alone (R182, R187). -/
theorem reportLoad_eq (detail : Detail) (s : State) : reportLoad detail s =
    if s.mgmt.result.command = some .reload ∧ s.mgmt.result.state = .inProgress then
      endCommand .done .none detail (raise .loadEnd s)
    else raise .loadEnd s := by
  unfold reportLoad
  simp [reloadRunning]

theorem reportLoad_keeps (detail : Detail) (s : State) : (reportLoad detail s).cfg = s.cfg
    ∧ (reportLoad detail s).loader = s.loader ∧ (reportLoad detail s).pair = s.pair
    ∧ (reportLoad detail s).stream = s.stream ∧ (reportLoad detail s).apply = s.apply
    ∧ (reportLoad detail s).list = s.list ∧ (reportLoad detail s).rx = s.rx
    ∧ flagSet (reportLoad detail s).events.flags .loadEnd = true
    ∧ (∀ e, flagSet s.events.flags e = true → flagSet (reportLoad detail s).events.flags e = true) := by
  have flag : flagSet (raise .loadEnd s).events.flags .loadEnd = true := by simp
  rw [reportLoad_eq]
  split
  · simp only [endCommand, raise_cfg, raise_loader, raise_stream, raise_apply, raise_list, raise_rx, true_and]
    refine ⟨by simp, flagSet_raise .commandEnd ?_, fun e set => flagSet_raise .commandEnd ?_⟩
    · exact flag
    · exact flagSet_raise .loadEnd set
  · simp only [raise_cfg, raise_loader, raise_stream, raise_apply, raise_list, raise_rx, true_and]
    exact ⟨by simp, flag, fun e => flagSet_raise .loadEnd⟩

/-- A RELOAD IN_PROGRESS ends with the load (R182). -/
theorem reportLoad_ends {detail : Detail} (reload : s.mgmt.result.command = some .reload)
    (running : s.mgmt.result.state = .inProgress) : (reportLoad detail s).mgmt.result.state = .done
      ∧ (reportLoad detail s).mgmt.result.detail = detail
      ∧ flagSet (reportLoad detail s).events.flags .commandEnd = true := by
  rw [reportLoad_eq, if_pos ⟨reload, running⟩]
  simp [endCommand]

/-- A unit that reads an image: it runs, and is in role NONE (R194). -/
theorem loadCommit_eq {image : List Bool} {staging : Settings} (loading : isLoading s = true)
    (judged : judgeImage s.cfg image = .commits staging) :
    exec (.loadCommit image) s = .next (finish (commitLoad staging s)) := by
  change Host.Outcome.next (if isLoading s then _ else s) = _
  rw [if_pos loading, judged]

theorem loadFail_eq {image : List Bool} {outcome : LoadState} {index : Byte} {detail : Detail}
    (loading : isLoading s = true) (judged : judgeImage s.cfg image = .absent ∧ outcome = .absent ∧ index = 0#8
        ∧ detail = .absent
      ∨ judgeImage s.cfg image = .failed index ∧ outcome = .failed ∧ detail = .failed) :
    exec (.loadFail image) s = .next (failLoad outcome index detail s) := by
  change Host.Outcome.next (if isLoading s then _ else s) = _
  rw [if_pos loading]
  rcases judged with ⟨absent, rfl, rfl, rfl⟩ | ⟨failed, rfl, rfl⟩
  · rw [absent]
  · rw [failed]

end

/-- Settles O10: the end of a load that fails writes the outcome, and raises LOAD_END. -/
theorem loadFailsAndCommitsNothing : Obligations.LoadFailsAndCommitsNothing := by
  intro image s phase state reading outcome index detail judged
  rw [loadFail_eq (isLoading_iff.mpr ⟨phase, state, reading⟩) judged, failLoad, reportLoad_eq]
  refine ⟨fun reload running => ?_, fun other => ?_⟩
  · rw [if_pos ⟨reload, running⟩, endCommand, raise_plain (e := .loadEnd) (by decide) (by decide),
      raise_plain (e := .loadEnd) (by decide) (by decide)]
    rfl
  · rw [if_neg other]
    rfl

section
variable {s : State}

/-- How the link follows its enable (R70, R192). -/
theorem followLinkControl_cases (oldRate : LinkRate) (s : State) :
    (s.cfg.linkEnable = true → followLinkControl false oldRate s = enableLink s)
    ∧ (s.cfg.linkEnable = false → followLinkControl true oldRate s = disableLink s)
    ∧ (s.cfg.linkEnable = true → oldRate ≠ s.cfg.linkRate →
        followLinkControl true oldRate s = enableLink (disableLink s))
    ∧ followLinkControl s.cfg.linkEnable s.cfg.linkRate s = s := by
  refine ⟨fun on => ?_, fun off => ?_, fun on other => ?_, ?_⟩
  · simp [followLinkControl, on]
  · simp [followLinkControl, off]
  · simp [followLinkControl, on, other]
  · cases on : s.cfg.linkEnable <;> simp [followLinkControl, on]

/-- The unit whose configuration and link have followed a commit. -/
def recommitted (staging : Settings) (s : State) : State :=
  followLinkControl s.cfg.linkEnable s.cfg.linkRate (updateAlert { s with cfg := staging })

theorem commitLoad_eq (staging : Settings) (s : State) : commitLoad staging s =
    reportLoad .loaded (enterStartRole { recommitted staging s with loader := endLoad .loaded 0#8 }) := rfl

theorem recommitted_cfg (staging : Settings) (s : State) : (recommitted staging s).cfg = staging := by
  simp [recommitted]

/-- What a commit keeps of a unit with no handover under way and none pending, until it takes its role. -/
theorem recommitted_keeps (staging : Settings) (pending : s.apply.handoverPending = none)
    (idle : handoverRunning s = false) (empty : s.list.records = []) :
    (recommitted staging s).pair.role = s.pair.role ∧ (recommitted staging s).apply = s.apply
      ∧ (recommitted staging s).mgmt = s.mgmt ∧ (recommitted staging s).stream = s.stream
      ∧ (recommitted staging s).list.records = [] := by
  obtain ⟨role, apply, mgmt⟩ := followLinkControl_of_plain (s := updateAlert { s with cfg := staging })
    s.cfg.linkEnable s.cfg.linkRate pending idle
  obtain ⟨stream, records⟩ := followLinkControl_of_plain_stream (s := updateAlert { s with cfg := staging })
    s.cfg.linkEnable s.cfg.linkRate pending idle
  exact ⟨role, apply, mgmt, stream, records empty⟩

/-- The link of a unit whose configuration is replaced (R70, R192). -/
theorem recommitted_link (staging : Settings) (pending : s.apply.handoverPending = none)
    (idle : handoverRunning s = false) :
    (s.cfg.linkEnable = false → staging.linkEnable = true → (recommitted staging s).pair.link = .down
        ∧ (recommitted staging s).rx.receiver = .hunting ∧ (recommitted staging s).rx.buffer = [])
    ∧ (s.cfg.linkEnable = true → staging.linkEnable = false → (recommitted staging s).pair.link = .off
        ∧ (recommitted staging s).rx.receiver = .notWatching
        ∧ (recommitted staging s).pair.partner = PartnerView.cleared)
    ∧ (s.cfg.linkEnable = true → staging.linkEnable = true → s.cfg.linkRate ≠ staging.linkRate →
        (recommitted staging s).pair.link = .down ∧ (recommitted staging s).pair.partner = PartnerView.cleared)
    ∧ (s.cfg.linkEnable = staging.linkEnable → s.cfg.linkRate = staging.linkRate →
        (recommitted staging s).pair.link = s.pair.link) := by
  obtain ⟨enables, disables, changes, stays⟩ :=
    followLinkControl_cases s.cfg.linkRate (updateAlert { s with cfg := staging })
  obtain ⟨link, partner, receiver, -⟩ :=
    disableLink_of_plain_link (s := updateAlert { s with cfg := staging }) pending idle
  unfold recommitted
  refine ⟨fun was on => ?_, fun was off => ?_, fun was on other => ?_, fun enable rate => ?_⟩
  · rw [was, enables on]
    exact ⟨rfl, rfl, rfl⟩
  · rw [was, disables off]
    exact ⟨link, receiver, partner⟩
  · rw [was, changes on other]
    exact ⟨rfl, partner⟩
  · have same : followLinkControl staging.linkEnable staging.linkRate (updateAlert { s with cfg := staging }) =
        updateAlert { s with cfg := staging } := stays
    rw [enable, rate, same]
    rfl

end

/-- Settles O9: the commit in the order of R192, its parts each left alone by those after it. -/
theorem loadCommits : Obligations.LoadCommits := by
  intro image s staging phase state reading role empty standby slot judged
  refine ⟨_, loadCommit_eq (isLoading_iff.mpr ⟨phase, state, reading⟩) judged, ?_⟩
  have fresh : s.apply.consistency = .inconsistent ∧ s.apply.heldEpoch = none ∧ s.apply.handoverPending = none := by
    simp [standbyOnly, role] at standby
    tauto
  have bare : s.list.records = [] ∧ s.stream.mode = .closed ∧ s.stream.isOpen = false := by
    simp [inactiveEmpty, role] at empty
    tauto
  have idle : handoverRunning s = false := by simpa [handoverIsActive, role] using slot
  obtain ⟨consistency, epoch, pending⟩ := fresh
  obtain ⟨records, closed, notOpen⟩ := bare
  obtain ⟨role', apply', mgmt', stream', records'⟩ := recommitted_keeps staging pending idle records
  obtain ⟨enables, disables, changes, stays⟩ := recommitted_link staging pending idle
  have cfg' := recommitted_cfg staging s
  rw [commitLoad_eq]
  generalize recommitted staging s = l at *
  obtain ⟨partner, rx, loader, mgmt, cfg⟩ := enterStartRole_keeps { l with loader := endLoad .loaded 0#8 }
  have newRole := enterStartRole_role (s := { l with loader := endLoad .loaded 0#8 }) (role'.trans role)
  have link := enterStartRole_link (s := { l with loader := endLoad .loaded 0#8 })
  obtain ⟨mode, isOpen⟩ := enterStartRole_stream (s := { l with loader := endLoad .loaded 0#8 })
    (by simp [stream', closed, notOpen])
  obtain ⟨held, inconsistent, unpending⟩ := enterStartRole_apply (s := { l with loader := endLoad .loaded 0#8 })
    (by simp [apply', epoch, consistency, pending])
  have noRecords := enterStartRole_records (s := { l with loader := endLoad .loaded 0#8 }) records'
  have roleChanged := enterStartRole_roleChanged (s := { l with loader := endLoad .loaded 0#8 })
  generalize enterStartRole { l with loader := endLoad .loaded 0#8 } = m at *
  obtain ⟨cfgC, loaderC, pairC, streamC, applyC, listC, rxC, loadEnd, flagsC⟩ := reportLoad_keeps .loaded m
  have ends := reportLoad_ends (s := m) (detail := .loaded)
  have exact' := reportLoad_alertExact .loaded m
  generalize reportLoad .loaded m = c at *
  obtain ⟨holdTimer, events, tx, helloTimer, finished, flagsE⟩ :=
    finish_of_quiet (s := c) (.inl (by rw [streamC, mode])) (by rw [applyC, unpending])
  obtain ⟨roleF, linkF, partnerF, streamF, applyF, recordsF, mgmtF⟩ : (finish c).pair.role = c.pair.role
      ∧ (finish c).pair.link = c.pair.link ∧ (finish c).pair.partner = c.pair.partner ∧ (finish c).stream = c.stream
      ∧ (finish c).apply = c.apply ∧ (finish c).list.records = c.list.records ∧ (finish c).mgmt = c.mgmt := by
    rw [finished]
    exact ⟨rfl, rfl, rfl, rfl, rfl, rfl, rfl⟩
  have flagsF : ∀ e, flagSet c.events.flags e = true → flagSet (finish c).events.flags e = true := by
    rw [finished]
    exact flagsE
  have alert := alertExact_iff.mp (finish_alertExact exact')
  have cfgF : (finish c).cfg = staging := by rw [finish_cfg, cfgC, cfg, cfg']
  have linked : (l.pair.link = .off ∨ l.pair.link = .down ∨ staging.startRole = .none) →
      (finish c).pair.link = l.pair.link := fun quiet => by
    rw [linkF, pairC, link (by simpa [cfg'] using quiet)]
  have partnered : (finish c).pair.partner = l.pair.partner := by rw [partnerF, pairC, partner]
  have received : (finish c).rx = l.rx := by rw [finish_rx, rxC, rx]
  refine ⟨cfgF, ?_, ?_, ?_, ?_, ?_, ?_, ?_, flagsF _ loadEnd, fun enters => ?_, ?_, fun was on => ?_, fun was off => ?_,
    fun was on other => ?_, fun enable rate none => ?_, fun reload running => ?_⟩
  · rw [finish_loader, loaderC, loader]
    rfl
  · rw [roleF, pairC, newRole]
    exact congrArg Settings.startRole cfg'
  · rw [streamF, streamC, mode]
  · rw [streamF, streamC, isOpen]
  · rw [applyF, applyC, held]
  · rw [applyF, applyC, inconsistent]
  · rw [recordsF, listC, noRecords]
  · exact flagsF _ (flagsC _ (roleChanged (by simpa [cfg'] using enters)))
  · rw [alert, cfgF]
  · obtain ⟨down, hunting, buffer⟩ := enables was on
    rw [linked (.inr (.inl down)), received]
    exact ⟨down, hunting, buffer⟩
  · obtain ⟨off, watching, cleared⟩ := disables was off
    rw [linked (.inl off), received, partnered]
    exact ⟨off, watching, cleared⟩
  · obtain ⟨down, cleared⟩ := changes was on other
    rw [linked (.inr (.inl down)), partnered]
    exact ⟨down, cleared⟩
  · rw [linked (.inr (.inr none))]
    exact stays enable rate
  · have same : m.mgmt = s.mgmt := mgmt.trans mgmt'
    obtain ⟨done, detail, commandEnd⟩ := ends (by rw [same, reload]) (by rw [same, running])
    rw [mgmtF]
    exact ⟨done, detail, flagsF _ commandEnd⟩

end Sys2Proof.Machine
end

section
/-! PROOFS. A discard, a resync start and a spill, field by field. -/

namespace Sys2Proof.Machine

open Sys2Proof.Safety

section
variable {s : State}

/-! ### What a discard makes of the host port (R46, R148, R149) -/

theorem isWithheld_of_withheld {q : HostReq} (port : s.host.port = .withheld q) : isWithheld s = true := by
  simp [isWithheld, port]

theorem discard_of_withheld {q : HostReq} (keep : Bool) (port : s.host.port = .withheld q) :
    (discard keep s).host = { s.host with port := .idle, response := some .fault, confirmTimer := none }
      ∧ flagSet (discard keep s).events.flags .confirmFail = true := by
  have held := isWithheld_of_withheld port
  cases keep <;> cases reserved : s.list.reserved <;>
    simp [discard, failConfirmWait, held, cancelReservation, emptyList, reserved, endConfirmWait]

theorem discard_of_condemned {q : HostReq} {c : HostClass} (port : s.host.port = .forwarded q c false)
    (reserved : s.list.reserved = true) (mirrored : isMirrored q c = true) (confirm : c.policy = .confirm) :
    (discard false s).host = { s.host with port := .forwarded q c true }
      ∧ flagSet (discard false s).events.flags .confirmFail = true := by
  have open_ : isWithheld s = false := by simp [isWithheld, port]
  simp [discard, failConfirmWait, open_, cancelReservation, emptyList, reserved, port, mirrored, confirm]

/-- A discard that keeps the reservation, and ends no confirm wait, leaves host port and events alone (R46). -/
theorem discard_keeping (answered : isWithheld s = false) :
    (discard true s).host = s.host ∧ (discard true s).events = s.events := by
  simp [discard, failConfirmWait_of_not_withheld s answered]

/-- A discard that ends no confirm wait and condemns no write leaves the host port alone (R46). -/
theorem discard_host_of_plain (answered : isWithheld s = false)
    (spares : ∀ q c, s.host.port = .forwarded q c false → s.list.reserved = true → isMirrored q c = true →
      c.policy ≠ .confirm) : (discard false s).host = s.host := by
  have failed := failConfirmWait_of_not_withheld s answered
  unfold discard
  simp only [failed, Bool.false_eq_true, if_false]
  rcases cancelReservation_cases { s with list := emptyList s.list } with ⟨-, e⟩ | ⟨reserved, q, c, port, mirrored,
    confirm, -⟩ | ⟨-, e⟩
  · rw [e]
  · exact absurd confirm (spares q c port reserved mirrored)
  · rw [e]

/-! ### Resync start (R120 to R122) -/

/-- The list and the epoch of a resync start before step 4 (R121). -/
def resyncOpened (s : State) : State := { s with
  stream := { s.stream with epoch := s.stream.epoch + 1#16, isOpen := true }
  list := if s.stream.mode = .resync then s.list else closeWrite s.list }

@[simp] theorem resyncOpened_stream : (resyncOpened s).stream =
    { s.stream with epoch := s.stream.epoch + 1#16, isOpen := true } := rfl
@[simp] theorem resyncOpened_cfg : (resyncOpened s).cfg = s.cfg := rfl
@[simp] theorem resyncOpened_dirty : (resyncOpened s).dirty = s.dirty := rfl
@[simp] theorem resyncOpened_walker : (resyncOpened s).walker = s.walker := rfl
@[simp] theorem resyncOpened_host : (resyncOpened s).host = s.host := rfl
@[simp] theorem resyncOpened_events : (resyncOpened s).events = s.events := rfl

theorem resyncOpened_list : (resyncOpened s).list.reserved = s.list.reserved
    ∧ (resyncOpened s).list.nextSeq = s.list.nextSeq
    ∧ (resyncOpened s).list.records =
      if s.stream.mode = .resync then s.list.records else (closeWrite s.list).records := by
  unfold resyncOpened
  dsimp only
  split <;> exact ⟨rfl, rfl, rfl⟩

/-- A resync start before its BEGIN is asked for (R121, steps 4 to 6 and the walker). -/
def resyncSet (s : State) : State :=
  let t := if resyncScope s = .full then beginFull (resyncOpened s) else resyncOpened s
  withdrawInternal { t with
    stream := { t.stream with basisValid := false, mode := .resync }
    list := { t.list with waitingMarker := none }
    walker := { t.walker with
      run := if upWithStandby s then .running else .paused
      pauseDue := false, cursor := 0, taken := false, nextChunk := 0
      outcome := .running, scope := resyncScope s, epoch := s.stream.epoch + 1#16 } }

theorem resyncStart_eq (s : State) :
    resyncStart s = askMarker (.beginMark (s.stream.epoch + 1#16) (resyncScope s)) (resyncSet s) := by
  have opened : (if s.stream.mode = .resync then
      { s with stream := { s.stream with epoch := s.stream.epoch + 1#16, isOpen := true } }
      else { s with
        stream := { s.stream with epoch := s.stream.epoch + 1#16, isOpen := true }
        list := closeWrite s.list }) = resyncOpened s := by
    unfold resyncOpened
    split <;> rfl
  unfold resyncStart resyncSet
  dsimp only
  rw [opened]
  rfl

theorem resyncScope_eq_full_iff : resyncScope s = .full ↔
    ¬(s.stream.basisValid = true ∧ s.pair.partner.epoch = some s.stream.basisEpoch) := by
  simp [resyncScope]

theorem resyncScope_eq_partial (h : s.stream.basisValid = true ∧ s.pair.partner.epoch = some s.stream.basisEpoch) :
    resyncScope s = .partialScope := by
  simp [resyncScope, h.1, h.2]

@[simp] theorem beginFull_stream : (beginFull s).stream = s.stream := by
  unfold beginFull
  dsimp only
  split <;> simp

@[simp] theorem beginFull_walker : (beginFull s).walker = s.walker := by
  unfold beginFull
  dsimp only
  split <;> simp

/-- Step 4 for scope FULL leaves no record, and keeps the reservation (R46, R121). -/
theorem beginFull_list : (beginFull s).list.records = [] ∧ (beginFull s).list.reserved = s.list.reserved
    ∧ (beginFull s).list.nextSeq = s.list.nextSeq := by
  unfold beginFull
  dsimp only
  split
  next empty => exact ⟨List.isEmpty_iff.mp empty, rfl, rfl⟩
  next => simp [emptyList]

@[simp] theorem beginFull_dirty : (beginFull s).dirty = fullMarking s.cfg.regions s.dirty := by
  unfold beginFull
  dsimp only
  split <;> simp

theorem beginFull_of_records (records : s.list.records ≠ []) :
    (beginFull s).host = (discard true s).host ∧ (beginFull s).events = (discard true s).events
      ∧ (beginFull s).list = (discard true s).list := by
  unfold beginFull
  dsimp only
  rw [if_neg (by simpa [List.isEmpty_iff] using records)]
  exact ⟨rfl, rfl, rfl⟩

theorem beginFull_of_not_withheld (answered : isWithheld s = false) :
    (beginFull s).host = s.host ∧ (beginFull s).events = s.events := by
  unfold beginFull
  dsimp only
  split
  · exact ⟨rfl, rfl⟩
  · exact discard_keeping answered

/-- Whatever the scope, the parts that the marks and the list are no part of. -/
theorem resyncSet_common (s : State) :
    (resyncSet s).stream = { mode := .resync, isOpen := true, epoch := s.stream.epoch + 1#16
                             basisEpoch := s.stream.basisEpoch, basisValid := false }
    ∧ (resyncSet s).walker = { s.walker with
        run := if upWithStandby s then .running else .paused
        pauseDue := false, cursor := 0, taken := false, nextChunk := 0
        outcome := .running, scope := resyncScope s, epoch := s.stream.epoch + 1#16 }
    ∧ (resyncSet s).list.reserved = s.list.reserved ∧ (resyncSet s).list.nextSeq = s.list.nextSeq
    ∧ (resyncSet s).list.waitingMarker = none := by
  obtain ⟨reservedO, nextSeqO, -⟩ := resyncOpened_list (s := s)
  obtain ⟨-, reserved, nextSeq⟩ := beginFull_list (s := resyncOpened s)
  unfold resyncSet
  dsimp only
  split
  · simp [reserved.trans reservedO, nextSeq.trans nextSeqO]
  · simp [reservedO, nextSeqO]

/-- Scope PARTIAL keeps list and map, but for the close of the open WRITE record outside RESYNC (R121). -/
theorem resyncSet_of_partial (scope : resyncScope s = .partialScope) :
    (resyncSet s).dirty = s.dirty ∧ (resyncSet s).host = s.host ∧ (resyncSet s).events = s.events
      ∧ (resyncSet s).list.records =
        if s.stream.mode = .resync then s.list.records else (closeWrite s.list).records := by
  unfold resyncSet
  simp [scope, resyncOpened_list]

/-- Scope FULL discards the records and marks every mirrored block (R121, R122). -/
theorem resyncSet_of_full (scope : resyncScope s = .full) :
    (resyncSet s).dirty = fullMarking s.cfg.regions s.dirty ∧ (resyncSet s).list.records = []
      ∧ (resyncSet s).host = (beginFull (resyncOpened s)).host
      ∧ (resyncSet s).events = (beginFull (resyncOpened s)).events
      ∧ (resyncSet s).list.retryTimer = (beginFull (resyncOpened s)).list.retryTimer
      ∧ (resyncSet s).list.retryCount = (beginFull (resyncOpened s)).list.retryCount := by
  unfold resyncSet
  simp [scope, beginFull_list]

/-- Whether a marker may take an entry, in the statements' words (R28). -/
theorem markerMayTake_iff : markerMayTake s = true ↔ occupancy s.list + (hostWaits s).toNat < 64 :=
  decide_eq_true_iff

theorem mirrors_iff {p : Policy} : p.mirrors = true ↔ p ≠ .pass := by
  cases p <;> simp [Policy.mirrors]

/-- The marks of a FULL resync start, by the policies of the chunks (R4, R122). -/
theorem mem_fullMarking_iff {b : Nat} {table : Vector RegionEntry 16} {marks : List Nat} :
    b ∈ fullMarking table marks ↔
      b < 4096 ∧ (b ∈ marks ∨ ∃ k < 64, policyAt table (4096 * b + 64 * k) ≠ .pass) := by
  simp [mem_fullMarking, mirroredBlock, mirroredChunk, chunkAddr, mirrors_iff, Config.blocks, Config.chunksPerBlock]

/-- An asked-for marker, where an entry is there for it and where not (R27). -/
theorem askMarker_list (body : RecordBody) (s : State) :
    (occupancy s.list + (hostWaits s).toNat < 64 → (askMarker body s).list = addRecord body .pending false s.list)
    ∧ (64 ≤ occupancy s.list + (hostWaits s).toNat →
        (askMarker body s).list = { s.list with waitingMarker := some body }) := by
  rcases askMarker_cases s body with ⟨free, e⟩ | ⟨full, e⟩ <;> rw [e]
  · rw [markerMayTake_iff] at free
    exact ⟨fun _ => rfl, fun _ => by omega⟩
  · rw [← Bool.not_eq_true, markerMayTake_iff] at full
    exact ⟨fun _ => by omega, fun _ => rfl⟩

theorem askMarker_keeps (body : RecordBody) (s : State) : (askMarker body s).stream = s.stream
    ∧ (askMarker body s).walker = s.walker ∧ (askMarker body s).dirty = s.dirty ∧ (askMarker body s).host = s.host
    ∧ (askMarker body s).events = s.events ∧ (askMarker body s).list.reserved = s.list.reserved
    ∧ (askMarker body s).list.retryTimer = s.list.retryTimer
    ∧ (askMarker body s).list.retryCount = s.list.retryCount := by
  rcases askMarker_cases s body with ⟨-, e⟩ | ⟨-, e⟩ <;> rw [e] <;> exact ⟨rfl, rfl, rfl, rfl, rfl, rfl, rfl, rfl⟩

theorem upWithStandby_iff : upWithStandby s = true ↔ s.pair.link = .up ∧ s.pair.partner.role = .standby := by
  simp [upWithStandby]

end

end Sys2Proof.Machine

namespace Sys2Proof

open Machine Safety in
/-- Settles O44: the state that the start sets, and then the marker by the entries that are left. -/
theorem resyncStart : Obligations.ResyncStart := by
  intro s t epoch isPartial mark kept
  obtain ⟨stream, walker, reserved, nextSeq, marker⟩ := resyncSet_common s
  obtain ⟨streamA, walkerA, dirtyA, hostA, eventsA, reservedA, timerA, countA⟩ :=
    askMarker_keeps (.beginMark epoch (resyncScope s)) (resyncSet s)
  obtain ⟨free, full⟩ := askMarker_list (.beginMark epoch (resyncScope s)) (resyncSet s)
  have t_eq : t = askMarker (.beginMark epoch (resyncScope s)) (resyncSet s) := resyncStart_eq s
  have mem : t.mem = withdrawn s.mem := resyncStart_mem s
  rw [← t_eq] at streamA walkerA dirtyA hostA eventsA reservedA timerA countA free full
  rw [walker] at walkerA
  refine ⟨streamA.trans stream, ?_, by rw [walkerA], by rw [walkerA], by rw [walkerA], by rw [walkerA], by rw [walkerA],
    by rw [walkerA], mem, by rw [mem]; rfl, by rw [mem]; rfl, fun op b bus => ?_, fun other => ?_, resyncStart_cfg s,
    resyncStart_pair s, resyncStart_apply s, reservedA.trans reserved, fun isP => ?_, fun notP => ?_⟩
  · rw [walkerA]
    simp [upWithStandby_iff]
  · simp [mem, withdrawn, bus]
  · rw [mem, withdrawn]
    split
    next op b bus => exact absurd bus (other op b)
    next => rfl
  · have scope := resyncScope_eq_partial isP
    obtain ⟨dirty, host, events, records⟩ := resyncSet_of_partial scope
    have entries : occupancy (resyncSet s).list + (hostWaits (resyncSet s)).toNat =
        occupancy s.list + (hostWaits s).toNat := by
      have length : (resyncSet s).list.records.length = s.list.records.length := by
        rw [records]
        split
        · rfl
        · simp [closeWrite]
      simp [occupancy, hostWaits, length, reserved, host]
    rw [entries, scope] at free full
    refine ⟨by rw [walkerA, scope], dirtyA.trans dirty, hostA.trans host, eventsA.trans events, fun room => ?_,
      fun none => ?_⟩
    · rw [free room]
      exact ⟨by simp [addRecord, records, nextSeq, kept, mark, epoch], by simp [addRecord, nextSeq], marker⟩
    · rw [full none]
      exact ⟨records, nextSeq, rfl⟩
  · have scope := resyncScope_eq_full_iff.mpr notP
    obtain ⟨dirty, records, host, events, timer, count⟩ := resyncSet_of_full scope
    have room : occupancy (resyncSet s).list + (hostWaits (resyncSet s)).toNat < 64 := by
      have := Bool.toNat_le (resyncSet s).list.reserved
      have := Bool.toNat_le (hostWaits (resyncSet s))
      simp only [occupancy, records, List.length_nil]
      omega
    rw [scope] at free
    have list := free room
    refine ⟨by rw [walkerA, scope], by simp [list, addRecord, records, nextSeq, mark, epoch],
      by simp [list, addRecord, nextSeq], by rw [list]; exact marker, fun b => ?_, fun some => ?_, fun answered => ?_⟩
    · rw [dirtyA, dirty]
      exact mem_fullMarking_iff
    · have held : (resyncOpened s).list.records ≠ [] := by
        rw [resyncOpened_list.2.2]
        split
        · exact some
        · simpa [closeWrite] using some
      obtain ⟨hostB, eventsB, listB⟩ := beginFull_of_records held
      refine ⟨?_, ?_, fun q port => ?_⟩
      · rw [timerA, timer, listB]
        simp [emptyList]
      · rw [countA, count, listB]
        simp [emptyList]
      · obtain ⟨failed, flag⟩ := discard_of_withheld (s := resyncOpened s) true port
        rw [hostA, host, hostB, failed, eventsA, events, eventsB]
        exact ⟨rfl, rfl, rfl, flag⟩
    · obtain ⟨hostB, eventsB⟩ := beginFull_of_not_withheld (s := resyncOpened s) answered
      rw [hostA, host, hostB, eventsA, events, eventsB]
      exact ⟨rfl, rfl⟩

end Sys2Proof

namespace Sys2Proof.Machine

open Sys2Proof.Safety

/-! ### Spill (R44, R133) -/

section
variable {s : State}

/-- The state of a spill before its discard: the marks set, the stream in TRACKING, the walker stopped (R44). -/
def spillSet (s : State) : State :=
  withdrawInternal { s with
    dirty := spillMarks s
    stream := { s.stream with mode := .tracking, basisEpoch := s.stream.epoch, basisValid := true }
    walker := { s.walker with
      run := .stopped, pauseDue := false, taken := false
      outcome := if s.stream.mode = .resync then .interrupted else s.walker.outcome } }

theorem spillCore_eq (s : State) : spillCore s = raise .spilled (discard false (spillSet s)) := by
  unfold spillCore spillSet
  dsimp only
  split <;> rfl

@[simp] theorem spillCore_stream : (spillCore s).stream =
    { s.stream with mode := .tracking, basisEpoch := s.stream.epoch, basisValid := true } := by
  simp [spillCore_eq, spillSet]

/-- A spill empties the list and cancels its reservation (R44). -/
theorem spillCore_list : (spillCore s).list = { s.list with
    records := [], reserved := false, waitingMarker := none, coalesceTimer := none, retryTimer := none
    retryCount := 0 } := by
  simp [spillCore_eq, spillSet, emptyList]

theorem spillCore_walker : (spillCore s).walker = { s.walker with
    run := .stopped, pauseDue := false, taken := false
    outcome := if s.stream.mode = .resync then .interrupted else s.walker.outcome } := by
  simp [spillCore_eq, spillSet]

theorem spillCore_dirty : (spillCore s).dirty = spillMarks s := by simp [spillCore_eq, spillSet]

theorem spillCore_host : (spillCore s).host = (discard false (spillSet s)).host := by simp [spillCore_eq]

theorem flagSet_spillCore {e : Event} (h : flagSet (discard false (spillSet s)).events.flags e = true) :
    flagSet (spillCore s).events.flags e = true := by
  rw [spillCore_eq]
  exact flagSet_raise _ h

theorem spill_eq (s : State) :
    spill s = if s.pair.link = .up ∧ s.pair.partner.role = .standby then resyncStart (spillCore s) else spillCore s := by
  simp [spill, resyncAfterSpill, upWithStandby]

/-- The blocks of a record, by its kind (R24, R44). -/
theorem mem_recordBlocks_iff {b : Nat} {r : Rec} : b ∈ recordBlocks r ↔
    ∃ region start words, (r.body = .data .write region start words ∧ ∃ i < words.length, b = blockOf (wordAfter start i))
      ∨ (r.body = .data .sync region start words ∧ b = blockOf start) := by
  unfold recordBlocks
  split
  · simp_all [eq_comm]
  · simp_all
  next other other' =>
    refine iff_of_false (by simp) ?_
    rintro ⟨region, start, words, ⟨body, -⟩ | ⟨body, -⟩⟩
    · exact other _ _ _ body
    · exact other' _ _ _ body

end

end Sys2Proof.Machine

namespace Sys2Proof

open Machine Safety in
/-- Settles O45: the marks, the stream and the walker first, then the discard, and the event last. -/
theorem spill : Obligations.Spill := by
  intro s u
  refine ⟨spill_eq s, spillCore_stream, spillCore_list, fun b => ?_, spillCore_walker, spillCore_mem s, spillCore_cfg s,
    spillCore_pair s, spillCore_apply s, spillCore_mgmt s, ?_, fun q port => ?_, fun q c b port => ?_,
    fun k q c b port => ?_⟩
  · rw [spillCore_dirty, mem_spillMarks]
    simp only [mem_recordBlocks_iff]
  · simp [u, spillCore_eq]
  · obtain ⟨host, flag⟩ := discard_of_withheld (s := spillSet s) false port
    rw [spillCore_host, host]
    exact ⟨rfl, rfl, rfl, flagSet_spillCore flag⟩
  · have mirrors : isMirrored q c = true ↔ q.kind = .write ∧ c.role = .active ∧ c.policy ≠ .pass := by
      simp [isMirrored, isMirroredWrite, mirrors_iff]
      tauto
    intro condemns
    refine ⟨fun ⟨fresh, reserved, kind, role, confirm⟩ => ?_, fun spared => ?_⟩
    · subst fresh
      obtain ⟨host, flag⟩ := discard_of_condemned (s := spillSet s) port reserved
        (mirrors.mpr ⟨kind, role, by simp [confirm]⟩) confirm
      rw [spillCore_host, host]
      exact ⟨rfl, flagSet_spillCore flag⟩
    · rw [spillCore_host]
      refine discard_host_of_plain (s := spillSet s) (by simp [isWithheld, spillSet, port]) ?_
      intro q' c' port' reserved mirrored confirm
      obtain ⟨rfl, rfl, rfl⟩ := PortState.forwarded.inj (port.symm.trans port')
      obtain ⟨kind, role, -⟩ := mirrors.mp mirrored
      exact spared ⟨rfl, reserved, kind, role, confirm⟩
  · rw [spillCore_host]
    refine discard_host_of_plain (s := spillSet s) (by simp [isWithheld, spillSet, port]) ?_
    intro q' c' port' _ _ _
    cases port.symm.trans port'

end Sys2Proof
end

section
/-! PROOFS. Lookup and the host path: which requests are forwarded, refused, held or spilled for, and what memory's
answer makes of them. -/

namespace Sys2Proof.Machine

open Sys2Proof.Safety

/-! ### Lookup (R3) -/

section
variable {table : Vector RegionEntry 16} {a : Nat}

/-- An entry that may answer a lookup: it is enabled, and its region holds the address (R1, R3). -/
def answersAt (table : Vector RegionEntry 16) (a : Nat) (m : BitVec 4) : Bool :=
  (regionAt table m).enabled && regionHas (regionAt table m) a

theorem answersAt_iff {m : BitVec 4} : answersAt table a m = true ↔ (regionAt table m).enabled = true
    ∧ 256 * (regionAt table m).base.toNat ≤ a
    ∧ a < 256 * (regionAt table m).base.toNat + 256 * ((regionAt table m).countLess1.toNat + 1) := by
  rw [answersAt, Bool.and_eq_true, regionHas, Bool.and_eq_true, decide_eq_true_iff, decide_eq_true_iff, regionBase,
    regionLength]

/-- The lookup finds the lowest entry that may answer it. -/
theorem lookup_of_lowest {n : BitVec 4} (holds : answersAt table a n = true)
    (lowest : ∀ m : BitVec 4, m.toNat < n.toNat → answersAt table a m = false) :
    lookup table a = some (regionAt table n, n.toNat) := by
  refine List.find?_eq_some_iff_getElem.mpr ⟨holds, n.toNat, by simpa using n.isLt, by simp [regionAt], fun j hj => ?_⟩
  have short : j < 16 := hj.trans n.isLt
  have index : (BitVec.ofNat 4 j).toNat = j := by
    rw [BitVec.toNat_ofNat]
    omega
  have skipped := lowest (BitVec.ofNat 4 j) (by rw [index]; exact hj)
  rw [answersAt, Bool.and_eq_false_iff, regionAt] at skipped
  simp only [List.getElem_zipIdx, Vector.getElem_toList, Nat.zero_add]
  simpa [index] using skipped

theorem lookup_of_none (none : ∀ m : BitVec 4, answersAt table a m = false) : lookup table a = .none := by
  refine List.find?_eq_none.mpr fun e he => ?_
  obtain ⟨j, hj, rfl⟩ := List.getElem_of_mem he
  have short : j < 16 := by simpa using hj
  have index : (BitVec.ofNat 4 j).toNat = j := by
    rw [BitVec.toNat_ofNat]
    omega
  simpa [answersAt, regionAt, index, Nat.mod_eq_of_lt short] using none (BitVec.ofNat 4 j)

end

/-- Settles O11: the first entry of the table, from index 0 on, that may answer. -/
theorem lookupFindsTheLowestEntry : Obligations.LookupFindsTheLowestEntry := by
  intro table a holds
  have held (m : BitVec 4) : holds m ↔ answersAt table a m = true := answersAt_iff.symm
  refine ⟨fun n at_ lowest => ?_, fun none => ?_⟩
  · have found := lookup_of_lowest ((held n).mp at_) fun m hm =>
      Bool.eq_false_of_not_eq_true (mt (held m).mpr (lowest m hm))
    simp [regionIndexAt, policyAt, guardAt, found]
  · have absent := lookup_of_none fun m => Bool.eq_false_of_not_eq_true (mt (held m).mpr (none m))
    simp [regionIndexAt, policyAt, guardAt, absent]

/-! ### The end of a step, by the host port (R144, R146) -/

section
variable {s : State}

theorem settleHold_of_idle (port : s.host.port = .idle) : settleHold s = s := by simp [settleHold, port]

theorem settleHold_of_withheld {req : HostReq} (port : s.host.port = .withheld req) : settleHold s = s := by
  simp [settleHold, port]

theorem settleHold_of_forwarded {req : HostReq} {cls : HostClass} {condemned : Bool}
    (port : s.host.port = .forwarded req cls condemned) : settleHold s = s := by
  simp [settleHold, port]

/-- Nothing is held: the end of the step is the scheduler's (R64). -/
theorem finish_of_idle (port : s.host.port = .idle) : finish s = schedule s := by
  rw [finish, settleHold_of_idle port]

theorem finish_of_withheld {req : HostReq} (port : s.host.port = .withheld req) : finish s = schedule s := by
  rw [finish, settleHold_of_withheld port]

theorem finish_of_forwarded {req : HostReq} {cls : HostClass} {condemned : Bool}
    (port : s.host.port = .forwarded req cls condemned) : finish s = schedule s := by
  rw [finish, settleHold_of_forwarded port]

/-- A LIST hold stands while the unit is ACTIVE in NORMAL or RESYNC and its link UP or in HANDSHAKE (R40, R43). -/
theorem settleHold_of_listHold {req : HostReq} {cls : HostClass} {counted : Bool}
    (port : s.host.port = .held .list req cls counted) (role : s.pair.role = .active)
    (mode : s.stream.mode = .normal ∨ s.stream.mode = .resync) (link : s.pair.link = .up ∨ s.pair.link = .handshake) :
    settleHold s = s := by
  rcases mode with mode | mode <;> rcases link with link | link <;> simp [settleHold, port, role, mode, holdsAllowed, link]

/-- A drain hold stands while the unit drains (R144). -/
theorem settleHold_of_drainHold {req : HostReq} {cls : HostClass} {counted : Bool}
    (port : s.host.port = .held .drain req cls counted) (role : s.pair.role = .active)
    (mode : s.stream.mode = .draining) : settleHold s = s := by
  simp [settleHold, port, role, mode]

/-! ### Requests (R140 to R142) -/

theorem hostRequest_of_unaccepted (kind : HostKind) (addr : WordAddr) (lanes : LaneMask) (data : Word)
    (h : s.phase ≠ .running ∨ s.host.port ≠ .idle) : exec (.hostRequest kind addr lanes data) s = .next s := by
  change Host.Outcome.next _ = _
  rw [if_neg]
  tauto

theorem hostRequest_of_idle (kind : HostKind) (addr : WordAddr) (lanes : LaneMask) (data : Word)
    (phase : s.phase = .running) (port : s.host.port = .idle) : exec (.hostRequest kind addr lanes data) s =
      .next (finish (acceptRequest { kind := kind, addr := addr, lanes := lanes, data := data } false
        { s with host := { s.host with response := none } })) := by
  change Host.Outcome.next _ = _
  rw [if_pos ⟨phase, port⟩]

/-- The classes of requests that are forwarded as they are (R10, R140). -/
theorem acceptRequest_of_plain {req : HostReq} (counted : Bool)
    (plain : req.kind = .read ∨ s.pair.role = .none
      ∨ (s.pair.role = .standby ∧ guardAt s.cfg.regions (4 * req.addr.toNat) = .opened)
      ∨ (s.pair.role = .active ∧ policyAt s.cfg.regions (4 * req.addr.toNat) = .pass)
      ∨ (s.pair.role = .active ∧ (s.stream.mode = .closed ∨ s.stream.mode = .tracking))) :
    acceptRequest req counted s = forward req (classify req s) s := by
  have byte : req.addr.byte = 4 * req.addr.toNat := rfl
  unfold acceptRequest
  split
  · rfl
  · rfl
  next kind role =>
    have guard : guardAt s.cfg.regions req.addr.byte = .opened := by simp_all
    rw [if_neg (by simp [guard])]
  next kind role =>
    split
    next mirrors =>
      rw [mirrors_iff, byte] at mirrors
      unfold acceptMirrored
      split <;> simp_all
    next => rfl

/-- A guard refuses a write to its region on a STANDBY (R141). -/
theorem acceptRequest_of_guarded {req : HostReq} (counted : Bool) (kind : req.kind = .write)
    (role : s.pair.role = .standby) (guard : guardAt s.cfg.regions (4 * req.addr.toNat) = .guarded) :
    acceptRequest req counted s = refuse req s := by
  have guard' : guardAt s.cfg.regions req.addr.byte = .guarded := guard
  simp [acceptRequest, kind, role, guard']

/-- A write to a mirrored region of an ACTIVE unit is accepted by the stream mode (R10). -/
theorem acceptRequest_of_mirrored {req : HostReq} (counted : Bool) (kind : req.kind = .write)
    (role : s.pair.role = .active) (policy : policyAt s.cfg.regions (4 * req.addr.toNat) ≠ .pass) :
    acceptRequest req counted s = acceptMirrored req counted s := by
  have mirrors : (policyAt s.cfg.regions req.addr.byte).mirrors = true := mirrors_iff.mpr policy
  simp [acceptRequest, kind, role, mirrors]

/-- In a mode that keeps a list the write asks for a reservation (R13, R40). -/
theorem acceptMirrored_of_streaming {req : HostReq} (counted : Bool)
    (mode : s.stream.mode = .normal ∨ s.stream.mode = .resync) :
    acceptMirrored req counted s = askReservation req counted s := by
  rcases mode with mode | mode <;> simp [acceptMirrored, mode]

theorem refuse_eq (req : HostReq) (s : State) : refuse req s = raise .guardHit { s with
    host := { s.host with port := .idle, response := some .fault, lastGuardAddr := req.addr } } := by
  rw [refuse, raise_plain (by decide) (by decide), raise_plain (by decide) (by decide)]
  rfl

end

/-- Settles O12: the classes of requests that no list and no guard stops, and the guard's refusal. -/
theorem hostRequestForwardedOrRefused : Obligations.HostRequestForwardedOrRefused := by
  refine ⟨fun kind addr lanes data s => ⟨hostRequest_of_unaccepted kind addr lanes data, fun phase port plain => ?_⟩,
    fun addr lanes data s phase port role guard => ?_⟩
  · rw [hostRequest_of_idle kind addr lanes data phase port,
      acceptRequest_of_plain (s := { s with host := { s.host with response := none } }) false plain,
      finish_of_forwarded rfl]
    rfl
  · rw [hostRequest_of_idle .write addr lanes data phase port,
      acceptRequest_of_guarded (s := { s with host := { s.host with response := none } }) false rfl role guard,
      refuse_eq, finish_of_idle (by simp)]

end Sys2Proof.Machine
end

section
/-! PROOFS. Capture at memory's answer, holds, and the host path's timers. -/

namespace Sys2Proof.Machine

open Sys2Proof.Safety

section
variable {s : State}

/-! ### A reservation, a hold, or a spill (R13, R40) -/

theorem holdsAllowed_iff : holdsAllowed s = true ↔ s.pair.link = .up ∨ s.pair.link = .handshake := by
  simp [holdsAllowed]

theorem askReservation_of_free (req : HostReq) (counted : Bool) (free : occupancy s.list < 64) :
    askReservation req counted s = reserveAndForward req (classify req s) s := by
  rw [askReservation, if_pos (freeEntry_iff.mpr free)]

theorem askReservation_of_held (req : HostReq) (counted : Bool) (full : 64 ≤ occupancy s.list)
    (reaches : s.pair.link = .up ∨ s.pair.link = .handshake) :
    askReservation req counted s = beginListHold req (classify req s) counted s := by
  rw [askReservation, if_neg (by rw [freeEntry_iff]; omega), if_pos (holdsAllowed_iff.mpr reaches)]

/-- A hold that begins in a step stands at its end. -/
theorem finish_beginListHold {req : HostReq} {cls : HostClass} {counted : Bool} (role : s.pair.role = .active)
    (mode : s.stream.mode = .normal ∨ s.stream.mode = .resync) (reaches : s.pair.link = .up ∨ s.pair.link = .handshake) :
    finish (beginListHold req cls counted s) = schedule (beginListHold req cls counted s) :=
  congrArg schedule (settleHold_of_listHold (s := beginListHold req cls counted s) rfl role mode reaches)

/-- A spill changes nothing that a classification reads. -/
theorem classify_spill (req : HostReq) (s : State) : classify req (spill s) = classify req s := by
  simp [classify]

theorem askReservation_of_spill (req : HostReq) (counted : Bool) (full : 64 ≤ occupancy s.list)
    (apart : ¬(s.pair.link = .up ∨ s.pair.link = .handshake)) :
    askReservation req counted s = forward req (classify req s) (spill s) := by
  rw [askReservation, if_neg (by rw [freeEntry_iff]; omega), if_neg (by rwa [holdsAllowed_iff])]
  simp only [classify_spill]

end

/-- Settles O13: a mirrored write of an ACTIVE unit by its stream's mode and the list's entries. -/
theorem mirroredWriteReservedHeldOrSpilled : Obligations.MirroredWriteReservedHeldOrSpilled := by
  intro addr lanes data s phase port role policy req cls at_
  let t : State := { s with host := { s.host with response := none } }
  have run : exec (.hostRequest .write addr lanes data) s = .next (finish (acceptMirrored req false t)) := by
    rw [hostRequest_of_idle .write addr lanes data phase port,
      acceptRequest_of_mirrored (s := t) (req := req) false rfl role policy]
  have classified : classify req t = cls := by
    simp only [classify, t, role, cls]
    rfl
  have asks := acceptMirrored_of_streaming (s := t) (req := req) false
  refine ⟨fun mode => ⟨fun free => ?_, fun full => ⟨fun reaches => ?_, fun up handshake => ?_⟩⟩, fun draining => ?_⟩
  · rw [run, asks mode, askReservation_of_free (s := t) req false free, classified,
      reserveAndForward, finish_of_forwarded rfl]
    rfl
  · rw [run, asks mode, askReservation_of_held (s := t) req false full reaches, classified,
      finish_beginListHold (s := t) role mode reaches]
    rfl
  · have same : { s with host := at_ .idle } = t := by simp only [at_, t, ← port]
    rw [run, asks mode, askReservation_of_spill (s := t) req false full (by tauto), classified,
      finish_of_forwarded rfl, same]
    rfl
  · have held : acceptMirrored req false t =
        { s with host := at_ (.held .drain req cls false) } := by
      rw [← classified]
      simp [acceptMirrored, draining, holdPort, at_, t]
    rw [run, held, finish,
      settleHold_of_drainHold (s := { s with host := at_ (.held .drain req cls false) }) rfl role draining]

section
variable {s : State}

/-! ### Memory's answer to a forwarded request (R9 to R16, R143) -/

/-- The unit once memory has answered the transaction on the bus (R143). -/
@[reducible] def busFreed (s : State) : State := { s with mem := { s.mem with bus := none } }

theorem hostMemoryAnswer_of_forwarded (answer : MemAnswer) {bus req : HostReq} {cls : HostClass} {condemned : Bool}
    (onBus : s.mem.bus = some (.host bus)) (port : s.host.port = .forwarded req cls condemned) :
    exec (.hostMemoryAnswer answer) s =
      .next (finish (hostAnswer answer req cls condemned (busFreed s))) := by
  change Host.Outcome.next _ = _
  simp only [onBus, port]

theorem isMirrored_iff {req : HostReq} {cls : HostClass} :
    isMirrored req cls = true ↔ req.kind = .write ∧ cls.role = .active ∧ cls.policy ≠ .pass := by
  simp [isMirrored, isMirroredWrite, mirrors_iff]
  tauto

theorem hostAnswer_of_unmirrored (answer : MemAnswer) (req : HostReq) (cls : HostClass) (condemned : Bool)
    (plain : ¬(req.kind = .write ∧ cls.role = .active ∧ cls.policy ≠ .pass)) :
    hostAnswer answer req cls condemned s = respond (passedBack req.kind answer) s := by
  unfold hostAnswer
  rw [if_neg (by rwa [isMirrored_iff])]

theorem hostAnswer_of_fault {req : HostReq} {cls : HostClass} (condemned : Bool)
    (mirrored : req.kind = .write ∧ cls.role = .active ∧ cls.policy ≠ .pass) :
    hostAnswer .fault req cls condemned s = respond .fault (dropReservation s) := by
  rw [hostAnswer, if_pos (isMirrored_iff.mpr mirrored)]

theorem hostAnswer_of_ok {req : HostReq} {cls : HostClass} (condemned : Bool) (data : Word)
    (mirrored : req.kind = .write ∧ cls.role = .active ∧ cls.policy ≠ .pass) :
    hostAnswer (.ok data) req cls condemned s = captureAnswer req cls condemned s := by
  rw [hostAnswer, if_pos (isMirrored_iff.mpr mirrored)]

theorem answerUnconfirmed_of_stream {cls : HostClass} (condemned : Bool) (policy : cls.policy = .stream) :
    answerUnconfirmed cls condemned s = respond .writeOk s := by
  simp [answerUnconfirmed, policy]

theorem answerUnconfirmed_of_confirm {cls : HostClass} (condemned : Bool) (policy : cls.policy = .confirm) :
    answerUnconfirmed cls condemned s =
      if condemned then respond .fault s else raise .confirmFail (respond .fault s) := by
  rw [answerUnconfirmed, if_pos policy]

@[simp] theorem answerUnconfirmed_port (cls : HostClass) (condemned : Bool) :
    (answerUnconfirmed cls condemned s).host.port = .idle := by
  unfold answerUnconfirmed
  split
  · split <;> simp
  · rfl

theorem blockOf_addr (a : WordAddr) : blockOf a = a.toNat / 1024 := by
  simp only [blockOf, WordAddr.byte]
  omega

theorem captureAnswer_of_ended (req : HostReq) (cls : HostClass) (condemned : Bool)
    (ended : s.pair.role ≠ .active ∨ s.stream.mode = .closed) :
    captureAnswer req cls condemned s = answerUnconfirmed cls condemned (dropReservation s) := by
  unfold captureAnswer
  split
  next role => simp [ended.resolve_left (not_not_intro role)]
  next => rfl

theorem captureAnswer_of_tracking (req : HostReq) (cls : HostClass) (condemned : Bool) (role : s.pair.role = .active)
    (mode : s.stream.mode = .tracking) : captureAnswer req cls condemned s =
      answerUnconfirmed cls condemned (markWrite req (dropReservation s)) := by
  rw [captureAnswer, if_pos role, mode]

/-- A STREAM write to a marked block of a RESYNC is not captured: the walker will read its words (R15). -/
theorem captureAnswer_of_marked {req : HostReq} {cls : HostClass} (condemned : Bool) (role : s.pair.role = .active)
    (mode : s.stream.mode = .resync) (policy : cls.policy = .stream) (marked : req.addr.toNat / 1024 ∈ s.dirty) :
    captureAnswer req cls condemned s = respond .writeOk (dropReservation s) := by
  simp [captureAnswer, role, mode, policy, blockOf_addr, marked]

/-- A write that must be captured (R15). -/
theorem captureAnswer_of_captured {req : HostReq} {cls : HostClass} (condemned : Bool) (role : s.pair.role = .active)
    (taken : s.stream.mode = .draining ∨ s.stream.mode = .normal
      ∨ (s.stream.mode = .resync ∧ ¬(cls.policy = .stream ∧ req.addr.toNat / 1024 ∈ s.dirty))) :
    captureAnswer req cls condemned s = capture req cls condemned s := by
  rw [captureAnswer, if_pos role]
  rcases taken with mode | mode | ⟨mode, unmarked⟩
  · rw [mode]
  · rw [mode]
  · simp only [mode, blockOf_addr, List.contains_iff_mem]
    rw [if_neg unmarked]

end

/-- Settles O15: the answers that leave the list's records alone. -/
theorem answersWithoutCapture : Obligations.AnswersWithoutCapture := by
  intro req cls condemned bus s onBus port mirrored answered returned tracked
  have run (answer : MemAnswer) := hostMemoryAnswer_of_forwarded answer onBus port
  refine ⟨fun plain => ⟨?_, fun data => ?_⟩, fun isM => ⟨?_, fun data => ⟨fun ended => ?_, fun role tracking => ?_,
    fun role resync policy marked => ?_⟩⟩⟩
  · rw [run, hostAnswer_of_unmirrored .fault req cls condemned plain, finish_of_idle rfl]
    rfl
  · rw [run, hostAnswer_of_unmirrored (.ok data) req cls condemned plain, finish_of_idle rfl]
    cases kind : req.kind <;> simp [passedBack, respond, answered]
  · rw [run, hostAnswer_of_fault condemned isM, finish_of_idle rfl]
    rfl
  · rw [run, hostAnswer_of_ok condemned data isM, captureAnswer_of_ended (s := busFreed s) req cls condemned ended,
      finish_of_idle (answerUnconfirmed_port cls condemned)]
    refine ⟨fun policy => ?_, fun policy lost => ?_, fun policy fresh => ?_⟩
    · rw [answerUnconfirmed_of_stream condemned policy]
      rfl
    · rw [answerUnconfirmed_of_confirm condemned policy, if_pos lost]
      rfl
    · rw [answerUnconfirmed_of_confirm condemned policy, if_neg (by simp [fresh])]
      rfl
  · have marks : markWrite req (dropReservation (busFreed s)) = { s with
        mem := { s.mem with bus := none }
        list := { s.list with reserved := false }
        dirty := markBlock (req.addr.toNat / 1024) s.dirty } := by
      rw [markWrite, blockOf_addr]
      rfl
    rw [run, hostAnswer_of_ok condemned data isM, captureAnswer_of_tracking (s := busFreed s) req cls condemned role
        tracking, marks,
      finish_of_idle (answerUnconfirmed_port cls condemned)]
    refine ⟨fun policy => ?_, fun policy lost => ?_, fun policy fresh => ?_⟩
    · rw [answerUnconfirmed_of_stream condemned policy]
      rfl
    · rw [answerUnconfirmed_of_confirm condemned policy, if_pos lost]
      rfl
    · rw [answerUnconfirmed_of_confirm condemned policy, if_neg (by simp [fresh])]
      rfl
  · rw [run, hostAnswer_of_ok condemned data isM, captureAnswer_of_marked (s := busFreed s) condemned role resync
        policy marked, finish_of_idle rfl]
    rfl

end Sys2Proof.Machine
end

section
/-! PROOFS. What a captured write makes of the replay list. -/

namespace Sys2Proof.Machine

open Sys2Proof.Safety

section
variable {s : State} {req : HostReq} {cls : HostClass} {condemned : Bool} {region : BitVec 4}

/-- The write joins the open WRITE record of its region whose next word is its own and which has room (R18). -/
theorem canJoin_iff {limit : Nat} {r : Rec} : canJoin limit req region r = true ↔ r.state = .opened
    ∧ ∃ start words, r.body = .data .write region start words ∧ req.addr.toNat = start.toNat + words.length
      ∧ words.length < limit := by
  unfold canJoin
  rw [Bool.and_eq_true, isOpenWrite_iff]
  split
  next kind idx start words body =>
    simp only [body, RecordBody.data.injEq, Bool.and_eq_true, beq_iff_eq, decide_eq_true_iff]
    constructor
    · rintro ⟨⟨opened, idx', start', words', rfl, rfl, rfl, rfl⟩, ⟨rfl, addr⟩, room⟩
      exact ⟨opened, start, words, ⟨rfl, rfl, rfl, rfl⟩, addr, room⟩
    · rintro ⟨opened, start', words', ⟨rfl, rfl, rfl, rfl⟩, addr, room⟩
      exact ⟨⟨opened, idx, start, words, rfl, rfl, rfl, rfl⟩, ⟨rfl, addr⟩, room⟩
  next other =>
    refine iff_of_false (by simp) ?_
    rintro ⟨-, start, words, body, -⟩
    exact other _ _ _ _ body

/-- A record that is no open WRITE record is joined by no write. -/
theorem canJoin_of_not_openWrite {limit : Nat} {r : Rec} (h : isOpenWrite r = false) :
    canJoin limit req region r = false := by
  simp [canJoin, h]

/-! ### The open WRITE record closes (R20) -/

/-- The close of one record, as `closeWrite` does it. -/
def closeRec (r : Rec) : Rec := if isOpenWrite r then { r with state := .pending } else r

theorem closeWrite_eq (l : ReplayList) :
    closeWrite l = { l with records := l.records.map closeRec, coalesceTimer := none } := rfl

theorem closeRec_of_not_openWrite {r : Rec} (h : isOpenWrite r = false) : closeRec r = r := by simp [closeRec, h]

theorem isOpenWrite_closeRec (r : Rec) : isOpenWrite (closeRec r) = false := by
  unfold closeRec
  split
  · rfl
  next shut => exact Bool.eq_false_of_not_eq_true shut

theorem map_closeRec_of_not_openWrite {records : List Rec} (h : ∀ r ∈ records, isOpenWrite r = false) :
    records.map closeRec = records :=
  (List.map_congr_left fun r hr => closeRec_of_not_openWrite (h r hr)).trans (List.map_id records)

/-- The open WRITE record is the one in state OPEN whose kind is WRITE. -/
theorem closeWrite_records (l : ReplayList) : (closeWrite l).records = l.records.map fun r =>
    if r.state = .opened ∧ isWrite r.body then { r with state := .pending } else r := by
  refine List.map_congr_left fun r _ => ?_
  simp only [isOpenWrite, Bool.and_eq_true, beq_iff_eq]

/-! ### A STREAM write joins (R18) -/

/-- The write joins the one record that takes it. -/
theorem joinWrite_of_split {before after : List Rec} {r : Rec} {start : WordAddr} {words : List DataWord}
    (records : s.list.records = before ++ r :: after) (opened : r.state = .opened)
    (body : r.body = .data .write region start words) (addr : req.addr.toNat = start.toNat + words.length)
    (room : words.length < s.cfg.coalesceLimit.toNat) (only : ∀ x ∈ before ++ after, isOpenWrite x = false) :
    joinWrite req region s = openOrClose (decide (words.length + 1 = s.cfg.coalesceLimit.toNat)) { s with
      list := { s.list with
        records := before ++ { r with body := .data .write region start (words ++ [wordOfWrite req]) } :: after
        reserved := false } } := by
  have joins : canJoin s.cfg.coalesceLimit.toNat req region r = true :=
    canJoin_iff.mpr ⟨opened, start, words, body, addr, room⟩
  have others (l : List Rec) (sub : ∀ x ∈ l, x ∈ before ++ after) :
      l.map (fun x => if canJoin s.cfg.coalesceLimit.toNat req region x then
        { x with body := appendWord (wordOfWrite req) x.body } else x) = l
      ∧ l.any (fun x => canJoin s.cfg.coalesceLimit.toNat req region x
        && decide (bodyWords x.body + 1 = s.cfg.coalesceLimit.toNat)) = false := by
    have none (x : Rec) (hx : x ∈ l) := canJoin_of_not_openWrite (limit := s.cfg.coalesceLimit.toNat) (req := req)
      (region := region) (only x (sub x hx))
    refine ⟨(List.map_congr_left fun x hx => ?_).trans (List.map_id l), List.any_eq_false.mpr fun x hx => ?_⟩
    · simp [none x hx]
    · simp [none x hx]
  obtain ⟨mapB, anyB⟩ := others before fun x hx => by simp [hx]
  obtain ⟨mapA, anyA⟩ := others after fun x hx => by simp [hx]
  have word : appendWord (wordOfWrite req) r.body = .data .write region start (words ++ [wordOfWrite req]) := by
    rw [body]
    rfl
  have count : bodyWords r.body = words.length := by
    rw [body]
    rfl
  unfold joinWrite dropReservation
  simp only [records, List.map_append, List.map_cons, List.any_append, List.any_cons, mapB, mapA, anyB, anyA, joins,
    word, count, if_true, Bool.false_or, Bool.or_false, Bool.true_and]

theorem capture_of_joins (policy : cls.policy = .stream) (at_ : cls.region = some region)
    (mode : s.stream.mode ≠ .draining) (joins : s.list.records.any (canJoin s.cfg.coalesceLimit.toNat req region) = true) :
    capture req cls condemned s = respond .writeOk (joinWrite req region s) := by
  simp [capture, policy, at_, mode, joins]

end

/-- Settles O16: the one open WRITE record takes the word, and closes at the limit. -/
theorem streamWriteJoins : Obligations.StreamWriteJoins := by
  intro req cls condemned bus data s region before after r start words onBus port kind clsRole policy at_ role mode
    records opened body only addr room full joined
  have joins : s.list.records.any (canJoin s.cfg.coalesceLimit.toNat req region) = true :=
    List.any_eq_true.mpr ⟨r, by simp [records], canJoin_iff.mpr ⟨opened, start, words, body, addr, room⟩⟩
  have streaming : s.stream.mode ≠ .draining := by rcases mode with mode | ⟨mode, -⟩ <;> simp [mode]
  rw [hostMemoryAnswer_of_forwarded (.ok data) onBus port,
    hostAnswer_of_ok condemned data ⟨kind, clsRole, by simp [policy]⟩,
    captureAnswer_of_captured (s := busFreed s) condemned role (by tauto),
    capture_of_joins (s := busFreed s) policy at_ streaming joins, finish_of_idle rfl,
    joinWrite_of_split (s := busFreed s) records opened body addr room only]
  by_cases last : words.length + 1 = s.cfg.coalesceLimit.toNat
  · have before_ := map_closeRec_of_not_openWrite fun x hx => only x (List.mem_append_left after hx)
    have after_ := map_closeRec_of_not_openWrite fun x hx => only x (List.mem_append_right before hx)
    simp [openOrClose, respond, last, full, joined, closeWrite_eq, before_, after_, closeRec, isOpenWrite, opened, isWrite,
      wordOfWrite]
  · simp [openOrClose, respond, last, full, joined, opened, wordOfWrite]

section
variable {s : State} {req : HostReq} {cls : HostClass} {condemned : Bool} {region : BitVec 4}

/-! ### A write that forms its own record (R19, R21) -/

/-- Whether a captured write has an entry: its own or a free one (R17). -/
theorem hasEntry_iff : (s.list.reserved || freeEntry s.list) = true ↔
    s.list.reserved = true ∨ s.list.records.length < 64 := by
  rw [Bool.or_eq_true, freeEntry_iff, occupancy]
  cases s.list.reserved <;> simp

theorem capture_of_opens (policy : cls.policy = .stream) (at_ : cls.region = some region)
    (alone : s.stream.mode = .draining ∨ s.list.records.any (canJoin s.cfg.coalesceLimit.toNat req region) = false)
    (entry : s.list.reserved = true ∨ s.list.records.length < 64) :
    capture req cls condemned s = respond .writeOk (openWrite req region s) := by
  have entry' := hasEntry_iff.mpr entry
  rcases alone with mode | none
  · simp [capture, policy, at_, mode, entry']
  · simp [capture, policy, at_, none, entry']

theorem capture_of_confirm (policy : cls.policy = .confirm) (at_ : cls.region = some region)
    (entry : s.list.reserved = true ∨ s.list.records.length < 64) :
    capture req cls condemned s = captureConfirm req cls region condemned s := by
  simp [capture, policy, at_, hasEntry_iff.mpr entry]

/-- A late capture that finds no entry and joins no record spills (R17; log 10). -/
theorem capture_of_no_entry (at_ : cls.region = some region) (reserved : s.list.reserved = false)
    (full : 64 ≤ s.list.records.length)
    (alone : cls.policy = .confirm
      ∨ s.list.records.any (canJoin s.cfg.coalesceLimit.toNat req region) = false) :
    capture req cls condemned s =
      answerUnconfirmed cls condemned (lateSpill (req.addr.toNat / 1024) s) := by
  have none_ : (s.list.reserved || freeEntry s.list) = false :=
    Bool.eq_false_of_not_eq_true (mt hasEntry_iff.mp (by simp [reserved, full]))
  rw [← resyncAfterSpill_markWrite]
  rcases alone with policy | none
  · simp [capture, captureBySpill, policy, none_]
  · simp [capture, captureBySpill, at_, none, none_]

/-- The record of a STREAM write that opens one: closed at once at a limit of 1 and in DRAINING (R19, R20). -/
theorem openWrite_eq (req : HostReq) (region : BitVec 4) (s : State) :
    let closes := decide (s.cfg.coalesceLimit.toNat = 1 ∨ s.stream.mode = .draining)
    openWrite req region s = { s with list := { s.list with
      records := (closeWrite s.list).records ++ [{
        seq := s.list.nextSeq, body := writeBody req region, state := if closes then .pending else .opened
        waiter := false, transmitted := false }]
      reserved := false
      nextSeq := s.list.nextSeq + 1#16
      coalesceTimer := if closes then none else some s.cfg.coalesceWindow.toNat } } := by
  intro closes
  have same : (s.cfg.coalesceLimit.toNat == 1 || s.stream.mode == .draining) = closes := by
    simp only [closes, Bool.decide_or]
    rfl
  have again (l : List Rec) : (l.map closeRec).map closeRec = l.map closeRec :=
    map_closeRec_of_not_openWrite fun r hr => by
      obtain ⟨x, -, rfl⟩ := List.mem_map.mp hr
      exact isOpenWrite_closeRec x
  unfold openWrite
  rw [same]
  cases closes
  · simp [openOrClose, dropReservation, addRecord, closeWrite_eq]
  · simp [openOrClose, dropReservation, addRecord, closeWrite_eq, again, closeRec, isOpenWrite, writeBody, isWrite]

theorem captureConfirm_eq (req : HostReq) (cls : HostClass) (region : BitVec 4) (condemned : Bool) (s : State) :
    let waits := s.list.reserved && !condemned
    let captured : State := { s with list := { s.list with
      records := (closeWrite s.list).records ++ [{
        seq := s.list.nextSeq, body := writeBody req region, state := .pending, waiter := waits, transmitted := false }]
      reserved := false
      nextSeq := s.list.nextSeq + 1#16
      coalesceTimer := none } }
    captureConfirm req cls region condemned s =
      if waits then beginConfirmWait req captured else answerUnconfirmed cls condemned captured := rfl

end

/-- Settles O17: no record takes the word, so the write opens its own, or spills when it has no entry. -/
theorem streamWriteOpensARecord : Obligations.StreamWriteOpensARecord := by
  intro req cls condemned bus data s region onBus port kind clsRole policy at_ role mode closes opened
  have alone : s.stream.mode = .draining
      ∨ s.list.records.any (canJoin s.cfg.coalesceLimit.toNat req region) = false := by
    refine mode.imp_right fun ⟨_, full⟩ => List.any_eq_false.mpr fun r hr joins => ?_
    obtain ⟨isOpen, start, words, body, addr, room⟩ := canJoin_iff.mp joins
    exact absurd room (Nat.not_lt.mpr (full r hr start words isOpen body addr))
  have run : exec (.hostMemoryAnswer (.ok data)) s = .next (finish (capture req cls condemned (busFreed s))) := by
    rw [hostMemoryAnswer_of_forwarded (.ok data) onBus port,
      hostAnswer_of_ok condemned data ⟨kind, clsRole, by simp [policy]⟩,
      captureAnswer_of_captured (s := busFreed s) condemned role (by tauto)]
  refine ⟨fun entry => ?_, fun reserved full streams => ?_⟩
  · rw [run, capture_of_opens (s := busFreed s) policy at_ alone entry, finish_of_idle rfl, openWrite_eq]
    rfl
  · rw [run, capture_of_no_entry (s := busFreed s) at_ reserved full (.inr (alone.resolve_left streams)),
      answerUnconfirmed_of_stream condemned policy, finish_of_idle rfl]
    rfl

/-- Settles O18: its own record with or without a waiter, or a spill when it has no entry. -/
theorem confirmWriteCaptured : Obligations.ConfirmWriteCaptured := by
  intro req cls condemned bus data s region onBus port kind clsRole policy at_ role mode captured
  have run : exec (.hostMemoryAnswer (.ok data)) s = .next (finish (capture req cls condemned (busFreed s))) := by
    rw [hostMemoryAnswer_of_forwarded (.ok data) onBus port,
      hostAnswer_of_ok condemned data ⟨kind, clsRole, by simp [policy]⟩,
      captureAnswer_of_captured (s := busFreed s) condemned role (by simp [policy]; tauto)]
  have formed (entry : s.list.reserved = true ∨ s.list.records.length < 64) :=
    capture_of_confirm (s := busFreed s) (req := req) (condemned := condemned) policy at_ entry
  refine ⟨fun reserved fresh => ?_, fun late free fresh => ?_, fun entry lost => ?_, fun late full _ => ?_⟩
  · have waits : ((busFreed s).list.reserved && !condemned) = true := by simp [reserved, fresh]
    rw [run, formed (.inl reserved), captureConfirm_eq, if_pos waits, finish_of_withheld rfl, waits]
    rfl
  · have answers : ((busFreed s).list.reserved && !condemned) = false := by simp [late]
    rw [run, formed (.inr free), captureConfirm_eq, answers, if_neg Bool.false_ne_true,
      finish_of_idle (answerUnconfirmed_port cls condemned), answerUnconfirmed_of_confirm condemned policy,
      if_neg (by simp [fresh])]
    rfl
  · have answers : ((busFreed s).list.reserved && !condemned) = false := by simp [lost]
    rw [run, formed entry, captureConfirm_eq, answers, if_neg Bool.false_ne_true,
      finish_of_idle (answerUnconfirmed_port cls condemned), answerUnconfirmed_of_confirm condemned policy, if_pos lost]
    rfl
  · rw [run, capture_of_no_entry (s := busFreed s) at_ late full (.inl policy),
      finish_of_idle (answerUnconfirmed_port cls condemned), answerUnconfirmed_of_confirm condemned policy]
    refine ⟨fun fresh => ?_, fun lost => ?_⟩
    · rw [if_neg (by simp [fresh])]
      rfl
    · rw [if_pos lost]
      rfl

end Sys2Proof.Machine
end

section
/-! PROOFS. The host path's timers, and what a step leaves of a held write. -/

namespace Sys2Proof.Machine

open Sys2Proof.Safety

section
variable {s : State} {req : HostReq} {cls : HostClass} {counted : Bool}

/-! ### A spill empties the list (R44, R45) -/

/-- A spill ends in TRACKING, or in RESYNC where a resync start follows. -/
theorem spill_mode (s : State) : (spill s).stream.mode =
    if s.pair.link = .up ∧ s.pair.partner.role = .standby then .resync else .tracking := by
  rw [spill_eq]
  split
  · rw [resyncStart_eq, (askMarker_keeps _ _).1, (resyncSet_common _).1]
  · rw [spillCore_stream]

/-- A resync start on an empty list leaves no more than its BEGIN marker. -/
theorem resyncStart_list_of_empty (empty : s.list.records = []) (reserved : s.list.reserved = false) :
    occupancy (resyncStart s).list ≤ 1 := by
  have none : (resyncSet s).list.records = [] := by
    by_cases scope : resyncScope s = .full
    · exact (resyncSet_of_full scope).2.1
    · have plain := resyncSet_of_partial (resyncScope_eq_partial (not_not.mp (mt resyncScope_eq_full_iff.mpr scope)))
      rw [plain.2.2.2]
      split <;> simp [empty, closeWrite]
  have kept : (resyncSet s).list.reserved = false := by rw [(resyncSet_common s).2.2.1, reserved]
  obtain ⟨free, full⟩ := askMarker_list (.beginMark (s.stream.epoch + 1#16) (resyncScope s)) (resyncSet s)
  rw [resyncStart_eq]
  by_cases room : occupancy (resyncSet s).list + (hostWaits (resyncSet s)).toNat < 64
  · rw [free room]
    simp [occupancy, addRecord, none, kept]
  · rw [full (Nat.le_of_not_lt room)]
    simp [occupancy, none, kept]

theorem spill_list_small (s : State) : occupancy (spill s).list ≤ 1 := by
  rw [spill_eq]
  split
  · exact resyncStart_list_of_empty (by rw [spillCore_list]) (by rw [spillCore_list])
  · rw [spillCore_list]
    exact Nat.zero_le 1

theorem spill_reserved (s : State) : (spill s).list.reserved = false := by
  rw [spill_eq]
  split
  · rw [resyncStart_eq, (askMarker_keeps _ _).2.2.2.2.2.1, (resyncSet_common _).2.2.1, spillCore_list]
  · rw [spillCore_list]

/-! ### A held write classified again (R146) -/

/-- The unit whose hold has ended: the hold timer stopped. -/
@[reducible] def holdEnded (s : State) : State := { s with list := { s.list with holdTimer := none } }

theorem reclassify_of_plain (counted : Bool)
    (plain : req.kind = .read ∨ s.pair.role = .none
      ∨ (s.pair.role = .standby ∧ guardAt s.cfg.regions (4 * req.addr.toNat) = .opened)
      ∨ (s.pair.role = .active ∧ policyAt s.cfg.regions (4 * req.addr.toNat) = .pass)
      ∨ (s.pair.role = .active ∧ (s.stream.mode = .closed ∨ s.stream.mode = .tracking))) :
    reclassify req counted s = forward req (classify req s) (holdEnded s) :=
  acceptRequest_of_plain (s := holdEnded s) counted plain

theorem reclassify_of_guarded (counted : Bool) (kind : req.kind = .write) (role : s.pair.role = .standby)
    (guard : guardAt s.cfg.regions (4 * req.addr.toNat) = .guarded) :
    reclassify req counted s = refuse req (holdEnded s) :=
  acceptRequest_of_guarded (s := holdEnded s) counted kind role guard

theorem reclassify_of_mirrored (counted : Bool) (kind : req.kind = .write) (role : s.pair.role = .active)
    (policy : policyAt s.cfg.regions (4 * req.addr.toNat) ≠ .pass)
    (mode : s.stream.mode = .normal ∨ s.stream.mode = .resync) :
    reclassify req counted s = askReservation req counted (holdEnded s) :=
  (acceptRequest_of_mirrored (s := holdEnded s) counted kind role policy).trans
    (acceptMirrored_of_streaming (s := holdEnded s) counted mode)

/-- A held write after a spill: forwarded under TRACKING, or with a reservation of the new list (R45). -/
theorem reclassify_spill (counted : Bool) (kind : req.kind = .write) (role : s.pair.role = .active)
    (policy : s.pair.link = .up ∧ s.pair.partner.role = .standby → policyAt s.cfg.regions (4 * req.addr.toNat) ≠ .pass) :
    reclassify req counted (spill s) = forward req (classify req s) { spill s with
      list := { (spill s).list with
        reserved := decide (s.pair.link = .up ∧ s.pair.partner.role = .standby), holdTimer := none } } := by
  have mode := spill_mode s
  have role' : (spill s).pair.role = .active := by simpa using role
  have classified : classify req (holdEnded (spill s)) = classify req s := classify_spill req s
  by_cases resyncs : s.pair.link = .up ∧ s.pair.partner.role = .standby
  · rw [if_pos resyncs] at mode
    rw [reclassify_of_mirrored counted kind role' (by simpa using policy resyncs) (.inr mode),
      askReservation_of_free (s := holdEnded (spill s)) req counted ((spill_list_small s).trans_lt (by decide)),
      classified, decide_eq_true resyncs]
    rfl
  · rw [if_neg resyncs] at mode
    rw [reclassify_of_plain counted (.inr (.inr (.inr (.inr ⟨role', .inr mode⟩)))), decide_eq_false resyncs,
      ← spill_reserved s, classify_spill]

/-! ### What ends a hold (R43, R145) -/

/-- A hold whose reason is gone ends, and its write is classified again. -/
theorem settleHold_of_over {k : HoldKind} (port : s.host.port = .held k req cls counted)
    (list : k = .list → ¬(s.pair.role = .active ∧ (s.stream.mode = .normal ∨ s.stream.mode = .resync)))
    (drain : k = .drain → ¬(s.pair.role = .active ∧ s.stream.mode = .draining)) :
    settleHold s = reclassify req counted s := by
  unfold settleHold
  rw [port]
  cases k
  · exact if_neg (by simpa using list rfl)
  · exact if_neg (by simpa using drain rfl)

/-- A LIST hold whose link is neither UP nor in HANDSHAKE spills (R40, R43). -/
theorem settleHold_of_cut (port : s.host.port = .held .list req cls counted) (role : s.pair.role = .active)
    (mode : s.stream.mode = .normal ∨ s.stream.mode = .resync)
    (apart : ¬(s.pair.link = .up ∨ s.pair.link = .handshake)) : settleHold s = reclassify req counted (spill s) := by
  unfold settleHold
  rw [port]
  refine (if_pos (by simpa [role] using mode)).trans (if_neg ?_)
  rwa [holdsAllowed_iff]

end

/-- Settles O19: each timer's expiry and the end of a LIST hold. -/
theorem hostPathTimersAndHoldEnds : Obligations.HostPathTimersAndHoldEnds := by
  refine ⟨⟨fun d s timer => ?_, fun d req s timer port => ?_, fun req cls counted s port free => ?_⟩,
    fun d req cls counted s port timer kind role policy => ?_⟩
  · change Host.Outcome.next _ = _
    rw [if_pos (by rw [timer]; rfl), ← closeWrite_records]
    rfl
  · change Host.Outcome.next _ = _
    rw [if_pos (by rw [timer]; rfl), failConfirmWait, if_pos (isWithheld_of_withheld port)]
    rfl
  · change Host.Outcome.next _ = _
    simp only [port]
    rw [if_pos (freeEntry_iff.mpr free)]
    rfl
  · intro u resyncs anew
    let x : State := raise .holdTimeout { s with list := { s.list with holdTimer := none } }
    have pair : x.pair = s.pair := raise_pair (by decide) _
    have cfg : x.cfg = s.cfg := raise_cfg _ _
    have run : exec .holdTimerExpiry s = .next (finish (reclassify req counted (spill x))) := by
      change Host.Outcome.next _ = _
      simp only [port]
      rw [if_pos (by rw [timer]; rfl)]
    have classified : classify req x = anew := by rw [classify, pair, cfg, role]; rfl
    refine ⟨?_, ?_⟩
    · rw [spill_mode x, pair]
      simp only [resyncs, decide_eq_true_iff]
    · rw [run, reclassify_spill counted kind (pair ▸ role) (cfg ▸ fun _ => policy), finish_of_forwarded rfl, classified,
        pair]
      rfl

/-- Settles O20: the hold stands, spills, or its write is classified again. -/
theorem heldWriteSettles : Obligations.HeldWriteSettles := by
  intro k req cls counted s port kind streams reaches anew ported ended
  refine ⟨?_, ?_, ?_, ?_, ?_⟩
  · rintro rfl role mode
    refine ⟨fun link => by rw [finish, settleHold_of_listHold port role mode link], fun apart => ?_⟩
    have down (h : s.pair.link = .up ∧ s.pair.partner.role = .standby) : False := apart (.inl h.1)
    have kept : decide (s.pair.link = .up ∧ s.pair.partner.role = .standby) = (spill s).list.reserved :=
      (decide_eq_false down).trans (spill_reserved s).symm
    rw [finish, settleHold_of_cut port role mode apart, reclassify_spill counted kind role fun h => (down h).elim, kept]
    rfl
  · rintro rfl role mode
    rw [finish, settleHold_of_drainHold port role mode]
  · intro role guard
    rw [finish, settleHold_of_over port (by simp [role]) (by simp [role]),
      reclassify_of_guarded counted kind role guard, refuse_eq]
  · intro plain
    have past : ¬(s.pair.role = .active
        ∧ (s.stream.mode = .normal ∨ s.stream.mode = .resync ∨ s.stream.mode = .draining)) := by
      rcases plain with role | ⟨role, -⟩ | ⟨-, mode | mode⟩
      · simp [role]
      · simp [role]
      · simp [mode]
      · simp [mode]
    rw [finish, settleHold_of_over port (by tauto) (by tauto),
      reclassify_of_plain counted (.inr (plain.imp_right (Or.imp_right .inr)))]
    rfl
  · rintro rfl role mode policy
    rw [finish, settleHold_of_over port (by simp) (by rcases mode with h | h <;> simp [h]),
      reclassify_of_mirrored counted kind role policy mode]
    refine ⟨fun free => ?_, fun full => ⟨fun link => ?_, fun apart => ?_⟩⟩
    · rw [askReservation_of_free (s := holdEnded s) req counted free]
      rfl
    · rw [askReservation_of_held (s := holdEnded s) req counted full link]
      rfl
    · rw [askReservation_of_spill (s := holdEnded s) req counted full apart]
      rfl

end Sys2Proof.Machine
end

section
/-! PROOFS. The frame assembler's inputs, and the link datapath's small steps. -/

namespace Sys2Proof.Machine

open Sys2Proof.Safety

section
variable {s : State}

/-! ### The same event twice (R157) -/

theorem withFlag_withFlag (flags : BitVec 15) (e : Event) : withFlag (withFlag flags e) e = withFlag flags e := by
  simp [withFlag, BitVec.or_assoc]

/-- An event without a reflex, taken twice around a change of the receiver, is taken once. -/
theorem raise_setRx_raise {e : Event} (rx : LinkRx) (lost : e ≠ .linkLost) (inconsistent : e ≠ .partnerInconsistent) :
    raise e { raise e s with rx := rx } = raise e { s with rx := rx } := by
  rw [raise_plain lost inconsistent, raise_plain lost inconsistent, raise_plain lost inconsistent]
  simp only [updateAlert, withFlag_withFlag]

/-! ### A character reaches the assembler (R52, R53) -/

theorem linkCharacter_of_untaken {bits : BitVec 12} (h : s.rx.receiver ≠ .hunting ∨ bits.getLsbD 0 = true) :
    exec (.linkCharacter bits) s = .next s := by
  change Host.Outcome.next _ = _
  rw [if_neg]
  simp only [falseStart, Bool.not_eq_true', not_and, Bool.not_eq_false]
  tauto

theorem linkCharacter_of_taken {bits : BitVec 12} (receiver : s.rx.receiver = .hunting)
    (start : bits.getLsbD 0 = false) : exec (.linkCharacter bits) s = .next (takeCharacter bits s) := by
  change Host.Outcome.next _ = _
  rw [if_pos ⟨receiver, by rw [falseStart, start]; rfl⟩]

theorem takeCharacter_of_symbol {bits : BitVec 12} (good : symbolOf bits ≠ .error) :
    takeCharacter bits s = assemble (symbolOf bits) s := by
  unfold takeCharacter
  split
  next bad => exact absurd bad good
  next => rfl

theorem takeCharacter_of_error {bits : BitVec 12} (bad : symbolOf bits = .error) :
    takeCharacter bits s = assemble .error (characterError (!bits.getLsbD 11) s) := by
  unfold takeCharacter
  rw [bad]
  rfl

/-! ### The assembler by its state (R58 to R60) -/

theorem assemble_of_inFrame {t : FrameType} {data : List Byte} {crc : Half} (sym : RxSymbol)
    (assembler : s.rx.assembler = .inFrame t data crc) : assemble sym s = assembleInFrame t data crc sym s := by
  unfold assemble
  rw [assembler]

/-- Between frames the assembler waits for a start-of-frame; an end leaves it in HUNT. -/
theorem assemble_between (idle : ∀ t data crc, s.rx.assembler ≠ .inFrame t data crc) :
    (∀ t, assemble (.sof t) s = setAssembler (beginFrame t) s)
    ∧ (∀ b, assemble (.data b) s = s) ∧ assemble .error s = s
    ∧ assemble .eof s = setAssembler .hunt s ∧ assemble .abort s = setAssembler .hunt s := by
  unfold assemble
  cases assembler : s.rx.assembler with
  | hunt =>
    have kept : setAssembler .hunt s = s := by rw [setAssembler, ← assembler]
    exact ⟨fun _ => rfl, fun _ => rfl, rfl, kept.symm, kept.symm⟩
  | discard => exact ⟨fun _ => rfl, fun _ => rfl, rfl, rfl, rfl⟩
  | inFrame t data crc => exact absurd assembler (idle t data crc)

end

/-- Settles O23: a character by the state of the assembler it finds. -/
theorem assemblerHandlesEachInput : Obligations.AssemblerHandlesEachInput := by
  intro bits s
  refine ⟨linkCharacter_of_untaken, fun receiver start => ?_⟩
  intro bad erred begun
  have run := linkCharacter_of_taken receiver start
  have taken {sym : RxSymbol} (at_ : symbolOf bits = sym) (good : sym ≠ .error) :
      exec (.linkCharacter bits) s = .next (assemble sym s) := by
    rw [run, takeCharacter_of_symbol (at_ ▸ good), at_]
  have error : characterError (!bits.getLsbD 11) s = raise .linkError { s with rx := erred } := by
    cases stop : bits.getLsbD 11 <;>
      simp only [characterError, erred, receiver, stop, Bool.not_true, Bool.not_false, if_true, Bool.false_eq_true,
        if_false]
  refine ⟨fun idle => ?_, fun t data crc assembler => ?_⟩
  · obtain ⟨sof, data, none, eof, abort⟩ := assemble_between idle
    refine ⟨fun err => ?_, fun t at_ => ?_, fun b at_ => ?_, fun ends => ?_⟩
    · have idle' : ∀ t data crc, (raise .linkError { s with rx := erred }).rx.assembler ≠ .inFrame t data crc := by
        simpa [erred] using idle
      rw [run, takeCharacter_of_error err, error, (assemble_between idle').2.2.1]
    · rw [taken at_ (by simp), sof]
      rfl
    · rw [taken at_ (by simp), data]
    · rcases ends with at_ | at_
      · rw [taken at_ (by simp), eof]
        rfl
      · rw [taken at_ (by simp), abort]
        rfl
  · have frame (sym : RxSymbol) := assemble_of_inFrame sym assembler
    refine ⟨fun err => ?_, fun t' at_ => ?_, fun b at_ => ⟨fun room => ?_, fun full => ?_⟩, fun at_ => ?_⟩
    · rw [run, takeCharacter_of_error err, error, assemble_of_inFrame .error (by simpa [erred] using assembler),
        assembleInFrame, badFrame, raise_setRx_raise _ (by decide) (by decide)]
      simp [bad]
    · rw [taken at_ (by simp), frame]
      rfl
    · rw [taken at_ (by simp), frame]
      exact congrArg Host.Outcome.next (if_pos room)
    · rw [taken at_ (by simp), frame]
      exact congrArg Host.Outcome.next (if_neg (Nat.not_lt.mpr full))
    · rw [taken at_ (by simp), frame]
      rfl

/-- Settles O25: one branch of each command. -/
theorem linkDatapathSmallSteps : Obligations.LinkDatapathSmallSteps := by
  refine ⟨⟨fun f rest s buffer discards => ?_, fun s receiver => ?_⟩, fun s serializer => ?_, fun d s timer => ?_,
    fun d s timer => ?_⟩
  · have dropped : discardsFrame s.pair.role f = true := by
      rcases discards with ⟨⟨q, b, rfl⟩, role⟩ | ⟨⟨n, rfl⟩ | ⟨n, rfl⟩, role⟩
      · simpa [discardsFrame] using role
      · simpa [discardsFrame] using role
      · simpa [discardsFrame] using role
    change Host.Outcome.next _ = _
    rw [buffer]
    dsimp only
    rw [if_pos dropped, dropOldest, buffer, List.tail_cons]
  · change Host.Outcome.next _ = _
    rw [if_pos receiver]
  · change Host.Outcome.next _ = _
    rw [if_neg serializer]
    rfl
  · change Host.Outcome.next _ = _
    rw [if_pos (by rw [timer]; rfl)]
  · change Host.Outcome.next _ = _
    rw [if_pos (by rw [timer]; rfl)]

end Sys2Proof.Machine
end

section
/-! PROOFS. The bits of a link character, and the CRC. -/

namespace Sys2Proof.Machine

open Sys2Proof.Safety

/-! ### The parity of a value (R50) -/

theorem foldl_xor_eq (f : Nat → Bool) (l : List Nat) (p : Bool) :
    l.foldl (fun p i => p ^^ f i) p = (p ^^ decide (l.countP f % 2 = 1)) := by
  induction l generalizing p with
  | nil => simp
  | cons i l ih =>
    rw [List.foldl_cons, ih, List.countP_cons]
    rcases Nat.mod_two_eq_zero_or_one (l.countP f) with even | odd
    · cases f i <;> simp [Nat.add_mod, even]
    · cases f i <;> simp [Nat.add_mod, odd]

theorem oddOnes_eq {w : Nat} (x : BitVec w) : oddOnes x = decide ((List.range w).countP x.getLsbD % 2 = 1) := by
  rw [oddOnes, foldl_xor_eq, Bool.false_xor]

/-- The ones of a character's bit times 1 to 10. -/
def ones (bits : BitVec 12) : Nat := (List.range 10).countP fun i => bits.getLsbD (i + 1)

theorem parityError_eq (bits : BitVec 12) : parityError bits = decide (ones bits % 2 = 0) := by
  have same : (List.range 10).countP (bits.extractLsb' 1 10).getLsbD = ones bits :=
    List.countP_congr fun i hi => by
      have := List.mem_range.mp hi
      simp [this, Nat.add_comm]
  rw [parityError, oddOnes_eq, same]
  rcases Nat.mod_two_eq_zero_or_one (ones bits) with even | odd
  · simp [even]
  · simp [odd]

/-! ### The bits of a character (R50) -/

section
variable (control : Bool) (value : Byte)

theorem characterBits_start : (characterBits control value).getLsbD 0 = false := by
  simp only [characterBits, BitVec.getLsbD_append]
  simp

theorem characterBits_content {i : Nat} (h : i < 9) :
    (characterBits control value).getLsbD (i + 1) = (BitVec.ofBool control ++ value).getLsbD i := by
  simp only [characterBits, BitVec.getLsbD_append]
  simp [h]

theorem characterBits_value {i : Nat} (h : i < 8) : (characterBits control value).getLsbD (i + 1) = value.getLsbD i := by
  rw [characterBits_content control value (by omega), BitVec.getLsbD_append, if_pos h]

theorem characterBits_marker : (characterBits control value).getLsbD 9 = control := by
  rw [characterBits_content control value (i := 8) (by omega), BitVec.getLsbD_append]
  simp

theorem characterBits_parity : (characterBits control value).getLsbD 10 = !oddOnes (BitVec.ofBool control ++ value) := by
  simp only [characterBits, BitVec.getLsbD_append]
  simp

theorem characterBits_stop : (characterBits control value).getLsbD 11 = true := by
  simp only [characterBits, BitVec.getLsbD_append]
  simp

/-- The ones of a character split off its parity bit. -/
theorem ones_eq (bits : BitVec 12) :
    ones bits = (List.range 9).countP (fun i => bits.getLsbD (i + 1)) + (bits.getLsbD 10).toNat := by
  rw [ones, List.range_succ, List.countP_append, List.countP_singleton]
  cases bits.getLsbD 10 <;> rfl

theorem ones_characterBits : ones (characterBits control value) % 2 = 1 := by
  have content : (List.range 9).countP (fun i => (characterBits control value).getLsbD (i + 1)) =
      (List.range 9).countP (BitVec.ofBool control ++ value).getLsbD :=
    List.countP_congr fun i hi => by rw [characterBits_content control value (List.mem_range.mp hi)]
  rw [ones_eq, characterBits_parity, oddOnes_eq, content]
  rcases Nat.mod_two_eq_zero_or_one ((List.range 9).countP (BitVec.ofBool control ++ value).getLsbD) with even | odd
  · simp [even, Nat.add_mod]
  · simp [odd]

/-! ### Reading a character back (R54) -/

theorem charValue_characterBits : charValue (characterBits control value) = value := by
  apply BitVec.eq_of_getLsbD_eq
  intro i hi
  rw [charValue, BitVec.getLsbD_extractLsb', Nat.add_comm, characterBits_value control value hi]
  simp [hi]

theorem symbolOf_characterBits : symbolOf (characterBits control value) =
    if control then symbolOfCode value else .data value := by
  have odd := ones_characterBits control value
  rw [symbolOf, parityError_eq, stopError, characterBits_stop, characterBits_marker, charValue_characterBits]
  simp [odd]

theorem symbolOfCode_sofCode (t : FrameType) : symbolOfCode (sofCode t) = .sof t := by
  cases t <;> rfl

theorem symbolOfCode_ne_data (b : Byte) : symbolOfCode value ≠ .data b := by
  unfold symbolOfCode
  repeat' split
  all_goals simp

theorem symbolOfCode_eq_error_iff : symbolOfCode value = .error ↔
    value ∉ [0x11#8, 0x12#8, 0x13#8, 0x14#8, 0x15#8, 0x1E#8, 0x1F#8] := by
  unfold symbolOfCode eofCode abortCode
  repeat' split
  all_goals simp_all

end

theorem symbolOf_eq_error_iff (bits : BitVec 12) : symbolOf bits = .error ↔
    ones bits % 2 = 0 ∨ bits.getLsbD 11 = false
      ∨ (bits.getLsbD 9 = true
        ∧ charValue bits ∉ [0x11#8, 0x12#8, 0x13#8, 0x14#8, 0x15#8, 0x1E#8, 0x1F#8]) := by
  rw [symbolOf, parityError_eq, stopError, ← symbolOfCode_eq_error_iff]
  split
  next bad =>
    simp only [Bool.or_eq_true, decide_eq_true_iff, Bool.not_eq_true'] at bad
    tauto
  next good =>
    simp only [Bool.or_eq_true, decide_eq_true_iff, Bool.not_eq_true', not_or] at good
    split
    · tauto
    next data => exact iff_of_false (by simp) (by tauto)

theorem symbolOf_eq_data {bits : BitVec 12} {b : Byte} (data : symbolOf bits = .data b) :
    ones bits % 2 = 1 ∧ bits.getLsbD 11 = true ∧ bits.getLsbD 9 = false ∧ charValue bits = b := by
  have good : symbolOf bits ≠ .error := by simp [data]
  rw [Ne, symbolOf_eq_error_iff, not_or, not_or] at good
  obtain ⟨odd, stop, -⟩ := good
  rw [symbolOf] at data
  split at data
  · cases data
  split at data
  next => exact absurd data (symbolOfCode_ne_data _ b)
  next marker =>
    exact ⟨by omega, by simpa using stop, by simpa using marker, RxSymbol.data.inj data⟩

/-- The one character that reads as a byte is the byte's own. -/
theorem eq_characterBits_of_data {bits : BitVec 12} {b : Byte} (start : bits.getLsbD 0 = false)
    (data : symbolOf bits = .data b) : bits = characterBits false b := by
  obtain ⟨odd, stop, marker, value⟩ := symbolOf_eq_data data
  obtain ⟨odd', stop', marker', value'⟩ := symbolOf_eq_data (symbolOf_characterBits false b)
  have content {i : Nat} (hi : i < 9) : bits.getLsbD (i + 1) = (characterBits false b).getLsbD (i + 1) := by
    rcases Nat.lt_succ_iff_lt_or_eq.mp hi with hi | rfl
    · have read : ∀ x : BitVec 12, (charValue x).getLsbD i = x.getLsbD (i + 1) := fun x => by
        rw [charValue, BitVec.getLsbD_extractLsb', Nat.add_comm]
        simp [hi]
      rw [← read, ← read, value, value']
    · rw [marker, marker']
  have parity : bits.getLsbD 10 = (characterBits false b).getLsbD 10 := by
    have same : (List.range 9).countP (fun i => bits.getLsbD (i + 1)) =
        (List.range 9).countP (fun i => (characterBits false b).getLsbD (i + 1)) :=
      List.countP_congr fun i hi => by rw [content (List.mem_range.mp hi)]
    rw [ones_eq, same] at odd
    rw [ones_eq] at odd'
    have := Bool.toNat_le (bits.getLsbD 10)
    have := Bool.toNat_le ((characterBits false b).getLsbD 10)
    have bit : (bits.getLsbD 10).toNat = ((characterBits false b).getLsbD 10).toNat := by omega
    rw [← Bool.ofNat_toNat (bits.getLsbD 10), bit, Bool.ofNat_toNat]
  apply BitVec.eq_of_getLsbD_eq
  intro i hi
  obtain rfl | hi | rfl | rfl : i = 0 ∨ (0 < i ∧ i < 10) ∨ i = 10 ∨ i = 11 := by omega
  · rw [start, characterBits_start]
  · obtain ⟨j, rfl⟩ := Nat.exists_eq_add_of_lt hi.1
    rw [Nat.zero_add]
    exact content (by omega)
  · exact parity
  · rw [stop, stop']

/-! ### The CRC (R56, R198) -/

theorem crcFeed_append (r : Half) (xs ys : List Byte) : crcFeed r (xs ++ ys) = crcFeed (crcFeed r xs) ys :=
  List.foldl_append

theorem crc16_append (xs ys : List Byte) : crc16 (xs ++ ys) = crcFeed (crc16 xs) ys := crcFeed_append _ xs ys

theorem crc16_concat (xs : List Byte) (b : Byte) : crc16 (xs ++ [b]) = crcByte (crc16 xs) b := crc16_append xs [b]

theorem getMsbD_byte (b : Byte) {i : Nat} (h : i < 8) : b.getMsbD i = b.getLsbD (7 - i) := by
  simp [BitVec.getMsbD, h]

/-- A byte through the register, bit by bit (R198). -/
theorem crcByte_eq (r : Half) (b : Byte) : crcByte r b = (List.range 8).foldl (fun (crc : Half) (i : Nat) =>
    if crc.getLsbD 15 ≠ b.getLsbD (7 - i) then (crc <<< 1) ^^^ 0x1021#16 else crc <<< 1) r := by
  refine List.foldl_ext _ _ _ fun crc i hi => ?_
  rw [crcBit, getMsbD_byte b (List.mem_range.mp hi), BitVec.msb_eq_getLsbD_last]
  simp only [bne_iff_ne]

/-- A register fed with its own uppermost bit shifts it out and takes nothing in. -/
theorem crcBit_shiftLeft (r : Half) (k : Nat) : crcBit (r <<< k) (r.getMsbD k) = r <<< (k + 1) := by
  have top : (r <<< k).msb = r.getMsbD k := by simp [BitVec.msb]
  rw [crcBit, top, bne_self_eq_false, if_neg Bool.false_ne_true, BitVec.shiftLeft_add]

/-- Eight bits of the register from bit `k` on, fed to it in turn, shift it by eight more. -/
theorem crcByte_shiftLeft (r : Half) (k : Nat) (b : Byte) (own : ∀ i < 8, b.getMsbD i = r.getMsbD (k + i)) :
    crcByte (r <<< k) b = r <<< (k + 8) := by
  have fed (n : Nat) (hn : n ≤ 8) :
      (List.range n).foldl (fun r i => crcBit r (b.getMsbD i)) (r <<< k) = r <<< (k + n) := by
    induction n with
    | zero => rfl
    | succ n ih =>
      rw [List.range_succ, List.foldl_append, ih (by omega), List.foldl_cons, List.foldl_nil, own n (by omega),
        crcBit_shiftLeft r (k + n), Nat.add_assoc]
  exact fed 8 le_rfl

theorem getMsbD_highByte (r : Half) {i : Nat} (h : i < 8) : (r.extractLsb' 8 8).getMsbD i = r.getMsbD i := by
  have place : 8 + (8 - 1 - i) = 16 - 1 - i := by omega
  have below : 8 - 1 - i < 8 := by omega
  have short : i < 16 := by omega
  simp only [BitVec.getMsbD, BitVec.getLsbD_extractLsb', h, below, short, place, decide_true, Bool.true_and]

theorem getMsbD_lowByte (r : Half) {i : Nat} (h : i < 8) : (r.extractLsb' 0 8).getMsbD i = r.getMsbD (8 + i) := by
  have place : 0 + (8 - 1 - i) = 16 - 1 - (8 + i) := by omega
  have below : 8 - 1 - i < 8 := by omega
  have short : 8 + i < 16 := by omega
  simp only [BitVec.getMsbD, BitVec.getLsbD_extractLsb', h, below, short, place, decide_true, Bool.true_and]

/-- The register is 0 behind its own two bytes (R198). -/
theorem crcFeed_halfBytes (r : Half) : crcFeed r (halfBytes r) = 0#16 := by
  have high (i : Nat) (h : i < 8) : (r.extractLsb' 8 8).getMsbD i = r.getMsbD (0 + i) := by
    rw [Nat.zero_add, getMsbD_highByte r h]
  calc crcFeed r (halfBytes r)
      = crcByte (crcByte (r <<< 0) (r.extractLsb' 8 8)) (r.extractLsb' 0 8) := by
        rw [BitVec.shiftLeft_zero]
        rfl
    _ = crcByte (r <<< 8) (r.extractLsb' 0 8) := by rw [crcByte_shiftLeft r 0 _ high]
    _ = r <<< 16 := crcByte_shiftLeft r 8 _ fun i h => getMsbD_lowByte r h
    _ = 0#16 := BitVec.shiftLeft_eq_zero le_rfl

theorem crc16_append_own (xs : List Byte) : crc16 (xs ++ halfBytes (crc16 xs)) = 0#16 := by
  rw [crc16_append, crcFeed_halfBytes]

theorem halfBytes_toNat (h : Half) : (halfBytes h).map BitVec.toNat = [h.toNat / 256, h.toNat % 256] := by
  have small : h.toNat / 256 < 256 := by
    have := h.isLt
    omega
  simp [halfBytes, BitVec.extractLsb'_toNat, Nat.shiftRight_eq_div_pow, Nat.mod_eq_of_lt small]

/-- Settles O21: the bits, their reading, the CRC, and what stands on the send pair. -/
theorem characterCoding : Obligations.CharacterCoding := by
  refine ⟨fun control value => ⟨characterBits_start control value, fun i hi => characterBits_value control value hi,
      characterBits_marker control value, characterBits_stop control value, ones_characterBits control value⟩,
    fun b => symbolOf_characterBits false b, fun t => ?_, symbolOf_characterBits true _, symbolOf_characterBits true _,
    fun bits b => eq_characterBits_of_data, fun bits _ => symbolOf_eq_error_iff bits,
    ⟨rfl, fun xs b => (crc16_concat xs b).trans (crcByte_eq _ b), crc16_append_own, ?_, halfBytes_toNat⟩,
    fun s => ⟨fun f sending => ?_, fun aborting => ?_, fun free => ?_⟩⟩
  · rw [symbolOf_characterBits true, if_pos rfl, symbolOfCode_sofCode]
  · exact Tests.test_crc_check_value
  · rw [sendPair, sending]
    rfl
  · rw [sendPair, aborting]
    rfl
  · rw [sendPair, free]
    rfl

end Sys2Proof.Machine
end

section
/-! PROOFS. What a payload must be to be well formed, and the judgement of a frame at its EOF. -/

namespace Sys2Proof.Machine

open Sys2Proof.Safety

/-! ### A frame whose CRC is right (R56, R61) -/

/-- A register whose lowest bit is 0 behind a bit has only shifted: the bit was its uppermost. -/
theorem crcBit_of_even {r : Half} {b : Bool} (even : (crcBit r b).getLsbD 0 = false) :
    crcBit r b = r <<< 1 ∧ b = r.msb := by
  unfold crcBit at even ⊢
  split at even
  · simp at even
  next same => exact ⟨if_neg same, by simpa using Eq.symm (by simpa using same)⟩

/-- A byte that leaves `m` zero bits below it in the register was the register's own upper byte. -/
theorem crcByte_of_shifted {r : Half} {b : Byte} {m : Nat} (h : m ≤ 8) (zero : crcByte r b <<< m = 0#16) :
    crcByte r b = r <<< 8 ∧ ∀ i < 8, b.getMsbD i = r.getMsbD i := by
  have fed (n : Nat) : ∀ m, n + m ≤ 16 →
      (List.range n).foldl (fun r i => crcBit r (b.getMsbD i)) r <<< m = 0#16 →
      (List.range n).foldl (fun r i => crcBit r (b.getMsbD i)) r = r <<< n
        ∧ ∀ i < n, b.getMsbD i = r.getMsbD i := by
    induction n with
    | zero => exact fun m _ _ => ⟨(BitVec.shiftLeft_zero r).symm, fun i hi => absurd hi (Nat.not_lt_zero i)⟩
    | succ n ih =>
      intro m room zero
      rw [List.range_succ, List.foldl_append, List.foldl_cons, List.foldl_nil] at zero ⊢
      have even := congrArg (BitVec.getLsbD · m) zero
      obtain ⟨shift, bit⟩ := crcBit_of_even (by simpa [show m < 16 by omega] using even)
      rw [shift, ← BitVec.shiftLeft_add] at zero
      obtain ⟨before, bits⟩ := ih (1 + m) (by omega) zero
      rw [shift, before, ← BitVec.shiftLeft_add]
      refine ⟨rfl, fun i hi => ?_⟩
      rcases Nat.lt_succ_iff_lt_or_eq.mp hi with hi | rfl
      · exact bits i hi
      · rw [bit, before]
        simp [BitVec.msb]
  exact fed 8 m (by omega) zero

/-- Two bytes that bring the register to 0 are the register's own. -/
theorem halfBytes_of_crcFeed {r : Half} {x y : Byte} (zero : crcFeed r [x, y] = 0#16) : [x, y] = halfBytes r := by
  obtain ⟨shiftY, bitsY⟩ := crcByte_of_shifted (r := crcByte r x) (b := y) (m := 0) (Nat.zero_le 8)
    (by rw [BitVec.shiftLeft_zero]; exact zero)
  have shifted : crcByte r x <<< 8 = 0#16 := shiftY.symm.trans zero
  obtain ⟨shiftX, bitsX⟩ := crcByte_of_shifted (m := 8) le_rfl shifted
  have high : x = r.extractLsb' 8 8 := by
    apply BitVec.eq_of_getMsbD_eq
    intro i hi
    rw [bitsX i hi, getMsbD_highByte r hi]
  have low : y = r.extractLsb' 0 8 := by
    apply BitVec.eq_of_getMsbD_eq
    intro i hi
    rw [bitsY i hi, shiftX, getMsbD_lowByte r hi, BitVec.getMsbD_shiftLeft, Nat.add_comm]
  rw [high, low]
  rfl

theorem goodFrame_of_own {t : FrameType} {payload : List Byte} :
    goodFrame t (payload ++ halfBytes (crc16 (sofCode t :: payload)))
      (crc16 (sofCode t :: (payload ++ halfBytes (crc16 (sofCode t :: payload))))) = parseFrame t payload := by
  have zero := crc16_append_own (sofCode t :: payload)
  rw [List.cons_append] at zero
  unfold goodFrame
  rw [if_pos ⟨by simp [halfBytes], zero⟩]
  simp [halfBytes]

/-- Only a payload with its own CRC behind it passes the CRC. -/
theorem goodFrame_eq_some {t : FrameType} {data : List Byte} {f : Frame}
    (good : goodFrame t data (crc16 (sofCode t :: data)) = some f) : ∃ payload,
      data = payload ++ halfBytes (crc16 (sofCode t :: payload)) ∧ parseFrame t payload = some f := by
  unfold goodFrame at good
  split at good
  next h =>
    obtain ⟨two, zero⟩ := h
    have split_ := List.take_append_drop (data.length - 2) data
    obtain ⟨x, y, tail⟩ := List.length_eq_two.mp (show (data.drop (data.length - 2)).length = 2 by simp; omega)
    rw [tail] at split_
    refine ⟨data.take (data.length - 2), ?_, good⟩
    rw [← split_, ← List.cons_append, crc16_append] at zero
    rw [← halfBytes_of_crcFeed zero, split_]
  next => cases good

section
variable {s : State}

theorem linkCharacter_of_eof {bits : BitVec 12} {t : FrameType} {data : List Byte} {crc : Half}
    (receiver : s.rx.receiver = .hunting) (start : bits.getLsbD 0 = false) (eof : symbolOf bits = .eof)
    (assembler : s.rx.assembler = .inFrame t data crc) :
    exec (.linkCharacter bits) s = .next (judgeFrame t data crc s) := by
  rw [linkCharacter_of_taken receiver start, takeCharacter_of_symbol (by simp [eof]), eof,
    assemble_of_inFrame .eof assembler]
  rfl

theorem judgeFrame_of_good {t : FrameType} {data : List Byte} {crc : Half} {f : Frame}
    (good : goodFrame t data crc = some f) : judgeFrame t data crc s = placeFrame f s := by
  rw [judgeFrame, good]

theorem judgeFrame_of_bad {t : FrameType} {data : List Byte} {crc : Half} (bad : goodFrame t data crc = none) :
    judgeFrame t data crc s = badFrame .hunt s := by
  rw [judgeFrame, bad]

theorem placeFrame_of_free (f : Frame) (free : s.rx.buffer.length < 4) : placeFrame f s = { s with
    rx := { s.rx with assembler := .hunt, buffer := s.rx.buffer ++ [f] }
    pair := { s.pair with lossTimer := s.pair.lossTimer.map fun _ => s.cfg.lossTimeout.toNat } } := if_pos free

theorem placeFrame_of_full (f : Frame) (full : ¬s.rx.buffer.length < 4) : placeFrame f s =
    { s with rx := { s.rx with assembler := .hunt, rxDrops := countUp s.rx.rxDrops } } := if_neg full

end

/-! ### What a well-formed payload holds (R55, R61, 11.2) -/

/-- Byte `i` of a payload, as a number. -/
def byteAt (p : List Byte) (i : Nat) : Nat := ((p[i]?).map BitVec.toNat).getD 0

theorem roleOfCode_le {n : Nat} {r : Role} (h : roleOfCode n = some r) : n ≤ 2 := by
  unfold roleOfCode at h
  split at h
  all_goals simp_all

theorem consistencyOfCode_le {n : Nat} {c : Consistency} (h : consistencyOfCode n = some c) : n ≤ 2 := by
  unfold consistencyOfCode at h
  split at h
  all_goals simp_all

theorem scopeOfCode_le {n : Nat} {c : Scope} (h : scopeOfCode n = some c) : n ≤ 1 := by
  unfold scopeOfCode at h
  split at h
  all_goals simp_all

/-- The consistency field of a flags byte, as a number (11.2). -/
theorem consistencyBits (f : Byte) : (f.extractLsb' 4 2).toNat = f.toNat / 16 % 4 := by
  simp [BitVec.extractLsb'_toNat, Nat.shiftRight_eq_div_pow]

theorem parseFrame_hello {p : List Byte} {f : Frame} (h : parseFrame .hello p = some f) :
    p.length = 10 ∧ byteAt p 0 ≤ 2 ∧ byteAt p 1 / 16 % 4 ≤ 2 ∧ ∃ x, f = .hello x := by
  unfold parseFrame at h
  split at h <;> try contradiction
  split at h <;> try contradiction
  next role c roleAt cAt =>
    rw [consistencyBits] at cAt
    exact ⟨rfl, roleOfCode_le roleAt, consistencyOfCode_le cAt, _, (Option.some.inj h).symm⟩

theorem parseFrame_pulse {p : List Byte} {f : Frame} (h : parseFrame .pulse p = some f) :
    p.length = 6 ∧ byteAt p 0 ≤ 2 ∧ byteAt p 1 / 16 % 4 ≤ 2 ∧ ∃ x, f = .pulse x := by
  unfold parseFrame at h
  split at h <;> try contradiction
  split at h <;> try contradiction
  next role c roleAt cAt =>
    rw [consistencyBits] at cAt
    exact ⟨rfl, roleOfCode_le roleAt, consistencyOfCode_le cAt, _, (Option.some.inj h).symm⟩

theorem parseFrame_ack {p : List Byte} {f : Frame} (h : parseFrame .ack p = some f) : p.length = 2 ∧ ∃ n, f = .ack n := by
  unfold parseFrame at h
  split at h <;> try contradiction
  exact ⟨rfl, _, (Option.some.inj h).symm⟩

theorem parseFrame_nak {p : List Byte} {f : Frame} (h : parseFrame .nak p = some f) : p.length = 2 ∧ ∃ n, f = .nak n := by
  unfold parseFrame at h
  split at h <;> try contradiction
  exact ⟨rfl, _, (Option.some.inj h).symm⟩

theorem parseFrame_record {p : List Byte} {f : Frame} (h : parseFrame .record p = some f) :
    ∃ s1 s0 kind rest body, p = s1 :: s0 :: kind :: rest ∧ parseBody kind rest = some body
      ∧ f = .record (halfOf s1 s0) body := by
  unfold parseFrame at h
  split at h <;> try contradiction
  next s1 s0 kind rest _ =>
    obtain ⟨body, parsed, rfl⟩ := Option.map_eq_some_iff.mp h
    exact ⟨s1, s0, kind, rest, body, rfl, parsed, rfl⟩

/-- The fields of a BEGIN marker behind its kind byte. -/
def parseBegin : List Byte → Option RecordBody
  | [e1, e0, sc] => (scopeOfCode sc.toNat).map (RecordBody.beginMark (halfOf e1 e0))
  | _ => none
/-- An END marker has no fields behind its kind byte. -/
def parseEnd : List Byte → Option RecordBody
  | [] => some .endMark
  | _ => none
/-- The fields of a HANDOVER record behind its kind byte. -/
def parseHandover : List Byte → Option RecordBody
  | [e1, e0] => some (.handoverMark (halfOf e1 e0))
  | _ => none

/-- The kinds of a record, by the kind byte. -/
theorem parseBody_eq (kind : Byte) (rest : List Byte) : parseBody kind rest =
    if kind.toNat = 1 then parseData .write rest
    else if kind.toNat = 2 then parseData .sync rest
    else if kind.toNat = 3 then parseBegin rest
    else if kind.toNat = 4 then parseEnd rest
    else if kind.toNat = 5 then parseHandover rest
    else none := by
  unfold parseBody
  generalize kind.toNat = code
  rcases code with _ | _ | _ | _ | _ | _ | n
  · rfl
  · rfl
  · rfl
  · rcases rest with _ | ⟨e1, _ | ⟨e0, _ | ⟨sc, _ | ⟨x, rest⟩⟩⟩⟩ <;> rfl
  · rcases rest with _ | ⟨x, rest⟩ <;> rfl
  · rcases rest with _ | ⟨e1, _ | ⟨e0, _ | ⟨x, rest⟩⟩⟩ <;> rfl
  · rfl
/-- The kinds of a record's body, by the kind byte and the fields behind it. -/
theorem parseBody_eq_some {kind : Byte} {rest : List Byte} {body : RecordBody} (h : parseBody kind rest = some body) :
    (kind.toNat = 1 ∧ parseData .write rest = some body) ∨ (kind.toNat = 2 ∧ parseData .sync rest = some body)
    ∨ (kind.toNat = 3 ∧ ∃ e1 e0 sc scope, rest = [e1, e0, sc] ∧ scopeOfCode sc.toNat = some scope
        ∧ body = .beginMark (halfOf e1 e0) scope)
    ∨ (kind.toNat = 4 ∧ rest = [] ∧ body = .endMark)
    ∨ (kind.toNat = 5 ∧ ∃ e1 e0, rest = [e1, e0] ∧ body = .handoverMark (halfOf e1 e0)) := by
  rw [parseBody_eq] at h
  split_ifs at h with write sync begins ends hands
  · exact .inl ⟨write, h⟩
  · exact .inr (.inl ⟨sync, h⟩)
  · unfold parseBegin at h
    split at h
    next e1 e0 sc =>
      obtain ⟨scope, named, rfl⟩ := Option.map_eq_some_iff.mp h
      exact .inr (.inr (.inl ⟨begins, e1, e0, sc, scope, rfl, named, rfl⟩))
    next => cases h
  · unfold parseEnd at h
    split at h
    next => exact .inr (.inr (.inr (.inl ⟨ends, rfl, (Option.some.inj h).symm⟩)))
    next => cases h
  · unfold parseHandover at h
    split at h
    next e1 e0 => exact .inr (.inr (.inr (.inr ⟨hands, e1, e0, rfl, (Option.some.inj h).symm⟩)))
    next => cases h

theorem length_masksOf (bytes : List Byte) : (masksOf bytes).length = 2 * bytes.length := by
  induction bytes with
  | nil => rfl
  | cons b rest ih => simp [masksOf, ih, Nat.mul_add]

theorem length_wordsOf (bytes : List Byte) : (wordsOf bytes).length = bytes.length / 4 := by
  induction bytes using wordsOf.induct with
  | case1 b3 b2 b1 b0 rest ih =>
    simp only [wordsOf, List.length_cons, ih]
    omega
  | case2 bytes short =>
    have none : wordsOf bytes = [] := by
      unfold wordsOf
      split
      next b3 b2 b1 b0 rest => exact absurd rfl (short b3 b2 b1 b0 rest)
      next => rfl
    have few : bytes.length < 4 := by
      rcases bytes with _ | ⟨b3, _ | ⟨b2, _ | ⟨b1, _ | ⟨b0, rest⟩⟩⟩⟩
      · simp
      · simp
      · simp
      · simp
      · exact absurd rfl (short b3 b2 b1 b0 rest)
    rw [none, List.length_nil, Nat.div_eq_of_lt few]

/-- The fields of a WRITE or SYNC record behind its kind byte (R61). -/
theorem parseData_eq_some {kind : DataKind} {rest : List Byte} {body : RecordBody} (h : parseData kind rest = some body) :
    ∃ region a2 a1 a0 count tail words, rest = region :: a2 :: a1 :: a0 :: count :: tail
      ∧ body = .data kind (region.extractLsb' 0 4) ((a2 ++ a1 ++ a0).extractLsb' 2 22) words
      ∧ words.length = count.toNat ∧ 1 ≤ count.toNat ∧ count.toNat ≤ 16 ∧ region.toNat ≤ 15
      ∧ (a2 ++ a1 ++ a0).extractLsb' 0 2 = 0#2
      ∧ WordAddr.byte ((a2 ++ a1 ++ a0).extractLsb' 2 22) + 4 * count.toNat ≤ Config.addressSpace
      ∧ tail.length = (count.toNat + 1) / 2 + 4 * count.toNat
      ∧ (kind = .sync → count.toNat = 16 ∧ words.all fun w => w.mask == fullMask) := by
  unfold parseData at h
  split at h
  next region a2 a1 a0 count tail =>
    dsimp only at h
    split at h
    next good =>
      obtain ⟨some, few, index, aligned, inside, length, full⟩ := good
      refine ⟨region, a2, a1, a0, count, tail, _, rfl, (Option.some.inj h).symm, ?_, some, few, index, aligned, inside,
        length, full⟩
      rw [List.length_zipWith, List.length_take, length_masksOf, List.length_take, length_wordsOf, List.length_drop]
      omega
    next => cases h
  next => cases h

/-- The two low bits of a start address are those of its last byte (11.2). -/
theorem aligned_of_lowBits {a2 a1 a0 : Byte} (h : (a2 ++ a1 ++ a0).extractLsb' 0 2 = 0#2) : a0.toNat % 4 = 0 := by
  rw [BitVec.extractLsb'_append_eq_of_add_le (by omega)] at h
  simpa [BitVec.extractLsb'_toNat] using congrArg BitVec.toNat h

/-- A parsed WRITE or SYNC record may be formed by its sender. -/
theorem frameWf_of_parseData {kind : DataKind} {rest : List Byte} {body : RecordBody} (seq : Half)
    (h : parseData kind rest = some body) : frameWf (.record seq body) = true := by
  obtain ⟨region, a2, a1, a0, count, tail, words, -, rfl, length, some, few, -, -, inside, -, full⟩ := parseData_eq_some h
  have whole : kind = .write ∨ (words.length = 16 ∧ words.all (fun w => w.mask == fullMask) = true) := by
    cases kind
    · exact .inl rfl
    · exact .inr (by rw [length]; exact full rfl)
  rw [← length] at some few inside
  simp only [frameWf, Bool.and_eq_true, Bool.or_eq_true, decide_eq_true_iff, beq_iff_eq]
  exact ⟨⟨⟨some, few⟩, inside⟩, whole⟩

/-! ### Positions that are ignored (R199) -/

/-- A mask that keeps the consistency field keeps its value. -/
theorem judgementBits_and {f m : Byte} (kept : m.extractLsb' 4 2 = BitVec.allOnes 2) :
    (f &&& m).extractLsb' 4 2 = f.extractLsb' 4 2 := by
  rw [BitVec.extractLsb'_and, kept, BitVec.and_allOnes]

theorem parseFrame_hello_flags {f g : Byte} (role : Byte) (rest : List Byte)
    (judged : f.extractLsb' 4 2 = g.extractLsb' 4 2) (seen : f.getLsbD 0 = g.getLsbD 0)
    (streams : f.getLsbD 1 = g.getLsbD 1) (epoch : f.getLsbD 2 = g.getLsbD 2) :
    parseFrame .hello (role :: f :: rest) = parseFrame .hello (role :: g :: rest) := by
  unfold parseFrame
  split
  case h_1 fields =>
    obtain ⟨rfl, rfl, rfl⟩ : role = _ ∧ f = _ ∧ rest = _ := by simpa using fields
    simp only [judged, seen, streams, epoch]
  all_goals simp_all

theorem parseFrame_pulse_flags {f g : Byte} (role : Byte) (rest : List Byte)
    (judged : f.extractLsb' 4 2 = g.extractLsb' 4 2) (epoch : f.getLsbD 2 = g.getLsbD 2) :
    parseFrame .pulse (role :: f :: rest) = parseFrame .pulse (role :: g :: rest) := by
  unfold parseFrame
  split
  case h_2 fields =>
    obtain ⟨rfl, rfl, rfl⟩ : role = _ ∧ f = _ ∧ rest = _ := by simpa using fields
    simp only [judged, epoch]
  all_goals simp_all

theorem masksOf_append (xs ys : List Byte) : masksOf (xs ++ ys) = masksOf xs ++ masksOf ys := by
  induction xs with
  | nil => rfl
  | cons b rest ih => simp [masksOf, ih]

/-- Of an odd number of masks the last byte gives its lower half only. -/
theorem masksOf_odd {masks tail : List Byte} {c : Nat} (last : Byte) (odd : c = 2 * masks.length + 1) :
    (masksOf ((masks ++ last :: tail).take ((c + 1) / 2))).take c = masksOf masks ++ [last.extractLsb' 0 4] := by
  have bytes : (c + 1) / 2 = masks.length + 1 := by omega
  have taken : (masks ++ last :: tail).take (masks.length + 1) = masks ++ [last] := by
    simp [List.take_append]
  rw [bytes, taken, masksOf_append, odd, ← length_masksOf, List.take_length_add_append]
  rfl

theorem wordsOf_odd {masks tail : List Byte} {c : Nat} (last : Byte) (odd : c = 2 * masks.length + 1) :
    (masks ++ last :: tail).drop ((c + 1) / 2) = tail := by
  have bytes : (c + 1) / 2 = masks.length + 1 := by omega
  rw [bytes]
  simp [List.drop_append]

theorem parseData_lastMask (kind : DataKind) (region a2 a1 a0 : Byte) {count : Byte} {masks : List Byte} (last : Byte)
    (tail : List Byte) (odd : count.toNat = 2 * masks.length + 1) :
    parseData kind (region :: a2 :: a1 :: a0 :: count :: (masks ++ last :: tail)) =
      parseData kind (region :: a2 :: a1 :: a0 :: count :: (masks ++ (last &&& 0x0F#8) :: tail)) := by
  have half : (last &&& 0x0F#8).extractLsb' 0 4 = last.extractLsb' 0 4 := by
    apply BitVec.eq_of_getLsbD_eq
    intro i hi
    have kept : ∀ i < 4, (0x0F#8).getLsbD (0 + i) = true := by decide
    rw [BitVec.getLsbD_extractLsb', BitVec.getLsbD_extractLsb', BitVec.getLsbD_and, kept i hi, Bool.and_true]
  have length : (masks ++ last :: tail).length = (masks ++ (last &&& 0x0F#8) :: tail).length := by simp
  simp only [parseData, masksOf_odd _ odd, wordsOf_odd _ odd, half, length]

theorem parseFrame_lastMask {head masks : List Byte} {count : Byte} (last : Byte) (tail : List Byte)
    (seven : head.length = 7) (odd : count.toNat = 2 * masks.length + 1) :
    parseFrame .record (head ++ count :: masks ++ last :: tail) =
      parseFrame .record (head ++ count :: masks ++ (last &&& 0x0F#8) :: tail) := by
  obtain ⟨s1, s0, kind, region, a2, a1, a0, rfl⟩ : ∃ s1 s0 kind region a2 a1 a0,
      head = [s1, s0, kind, region, a2, a1, a0] := by
    rcases head with _ | ⟨s1, _ | ⟨s0, _ | ⟨kind, _ | ⟨region, _ | ⟨a2, _ | ⟨a1, _ | ⟨a0, _ | ⟨x, rest⟩⟩⟩⟩⟩⟩⟩⟩
    all_goals simp at seven
    exact ⟨s1, s0, kind, region, a2, a1, a0, rfl⟩
  have body : parseBody kind (region :: a2 :: a1 :: a0 :: count :: (masks ++ last :: tail)) =
      parseBody kind (region :: a2 :: a1 :: a0 :: count :: (masks ++ (last &&& 0x0F#8) :: tail)) := by
    rw [parseBody_eq, parseBody_eq, parseData_lastMask .write region a2 a1 a0 last tail odd,
      parseData_lastMask .sync region a2 a1 a0 last tail odd]
    rfl
  exact congrArg (Option.map (Frame.record (halfOf s1 s0))) body

/-- The fields of a WRITE or SYNC record at their offsets (R61, 11.2). -/
theorem bytes_of_parseData {kind : DataKind} {rest : List Byte} {body : RecordBody} (s1 s0 code : Byte)
    (h : parseData kind rest = some body) : ∃ region start words, body = .data kind region start words
      ∧ byteAt (s1 :: s0 :: code :: rest) 3 ≤ 15 ∧ byteAt (s1 :: s0 :: code :: rest) 6 % 4 = 0
      ∧ byteAt (s1 :: s0 :: code :: rest) 7 = words.length
      ∧ (s1 :: s0 :: code :: rest).length = 8 + (words.length + 1) / 2 + 4 * words.length := by
  obtain ⟨region, a2, a1, a0, count, tail, words, rfl, rfl, length, -, -, index, aligned, -, whole, -⟩ :=
    parseData_eq_some h
  refine ⟨_, _, words, rfl, index, aligned_of_lowBits aligned, length.symm, ?_⟩
  simp only [List.length_cons, whole, length]
  omega

/-- What a well-formed RECORD payload holds (R55, R61). -/
theorem parseFrame_record_facts {p : List Byte} {f : Frame} (h : parseFrame .record p = some f) :
    frameWf f = true ∧ 1 ≤ byteAt p 2 ∧ byteAt p 2 ≤ 5 ∧ (∃ n body, f = .record n body)
    ∧ (∀ n kind region start words, f = .record n (.data kind region start words) →
      byteAt p 2 = (if kind = .write then 1 else 2) ∧ byteAt p 3 ≤ 15 ∧ byteAt p 6 % 4 = 0 ∧ byteAt p 7 = words.length
        ∧ p.length = 8 + (words.length + 1) / 2 + 4 * words.length)
    ∧ (∀ n epoch scope, f = .record n (.beginMark epoch scope) → byteAt p 2 = 3 ∧ byteAt p 5 ≤ 1 ∧ p.length = 6)
    ∧ (∀ n, f = .record n .endMark → byteAt p 2 = 4 ∧ p.length = 3)
    ∧ (∀ n epoch, f = .record n (.handoverMark epoch) → byteAt p 2 = 5 ∧ p.length = 5) := by
  obtain ⟨s1, s0, kind, rest, body, rfl, parsed, rfl⟩ := parseFrame_record h
  have third : byteAt (s1 :: s0 :: kind :: rest) 2 = kind.toNat := rfl
  rw [third]
  rcases parseBody_eq_some parsed with ⟨code, data⟩ | ⟨code, data⟩ | ⟨code, e1, e0, sc, scope, rfl, named, rfl⟩
    | ⟨code, rfl, rfl⟩ | ⟨code, e1, e0, rfl, rfl⟩
  · obtain ⟨region, start, words, rfl, fields⟩ := bytes_of_parseData s1 s0 kind data
    refine ⟨frameWf_of_parseData _ data, by omega, by omega, ⟨_, _, rfl⟩, fun n k r a w e => ?_, by simp, by simp, by simp⟩
    obtain ⟨-, rfl, rfl, rfl, rfl⟩ := by simpa using e
    exact ⟨code, fields⟩
  · obtain ⟨region, start, words, rfl, fields⟩ := bytes_of_parseData s1 s0 kind data
    refine ⟨frameWf_of_parseData _ data, by omega, by omega, ⟨_, _, rfl⟩, fun n k r a w e => ?_, by simp, by simp, by simp⟩
    obtain ⟨-, rfl, rfl, rfl, rfl⟩ := by simpa using e
    exact ⟨code, fields⟩
  · refine ⟨rfl, by omega, by omega, ⟨_, _, rfl⟩, by simp, fun n epoch scope e => ⟨code, scopeOfCode_le named, rfl⟩,
      by simp, by simp⟩
  · refine ⟨rfl, by omega, by omega, ⟨_, _, rfl⟩, by simp, by simp, fun n e => ⟨code, rfl⟩, by simp⟩
  · refine ⟨rfl, by omega, by omega, ⟨_, _, rfl⟩, by simp, by simp, by simp, fun n epoch e => ⟨code, rfl⟩⟩

/-- Settles O24: the CRC decides which payload is judged, and the parser which of them is well formed. -/
theorem frameJudgedAtEof : Obligations.FrameJudgedAtEof := by
  refine ⟨fun t data crc bits s receiver start eof assembler wf => ?_, fun t p f parsed => ?_,
    fun role flags rest => ⟨?_, ?_⟩, fun head masks rest count last seven odd => parseFrame_lastMask last rest seven odd⟩
  · have own : crc = crc16 (sofCode t :: data) := by
      simp only [rxWf, assembler, Bool.and_eq_true, beq_iff_eq] at wf
      exact wf.2.2
    rw [linkCharacter_of_eof receiver start eof assembler, own]
    refine ⟨fun payload f sent parsed => ?_, fun none => ?_⟩
    · subst sent
      rw [judgeFrame_of_good (goodFrame_of_own.trans parsed)]
      exact ⟨fun free => by rw [placeFrame_of_free f free], fun full => by rw [placeFrame_of_full f (by omega)]⟩
    · have bad : goodFrame t data (crc16 (sofCode t :: data)) = .none := by
        rw [Option.eq_none_iff_forall_ne_some]
        intro f good
        obtain ⟨payload, sent, parsed⟩ := goodFrame_eq_some good
        exact none payload f sent parsed
      rw [judgeFrame_of_bad bad]
      rfl
  · intro byte
    cases t with
    | hello =>
      obtain ⟨length, role, judged, x, rfl⟩ := parseFrame_hello parsed
      exact ⟨rfl, rfl, by simpa using length, by simp, by simp, fun _ => ⟨role, judged⟩, by simp⟩
    | pulse =>
      obtain ⟨length, role, judged, x, rfl⟩ := parseFrame_pulse parsed
      exact ⟨rfl, rfl, by simp, by simpa using length, by simp, fun _ => ⟨role, judged⟩, by simp⟩
    | ack =>
      obtain ⟨length, n, rfl⟩ := parseFrame_ack parsed
      exact ⟨rfl, rfl, by simp, by simp, by simpa using length, by simp⟩
    | nak =>
      obtain ⟨length, n, rfl⟩ := parseFrame_nak parsed
      exact ⟨rfl, rfl, by simp, by simp, by simpa using length, by simp⟩
    | record =>
      obtain ⟨wf, low, high, ⟨n, body, rfl⟩, fields⟩ := parseFrame_record_facts parsed
      exact ⟨rfl, wf, by simp, by simp, by simp, by simp, fun _ => ⟨low, high⟩, fields⟩
  · exact parseFrame_hello_flags role rest (judgementBits_and (by decide)).symm (by simp) (by simp) (by simp)
  · exact parseFrame_pulse_flags role rest (judgementBits_and (by decide)).symm (by simp)

end Sys2Proof.Machine
end

section
/-! PROOFS. A frame's payload parsed back, its bytes as numbers, and its characters received in turn. -/

namespace Sys2Proof.Machine

open Sys2Proof.Safety

/-! ### The fields of a payload read back (R55, 11.2) -/

theorem roleOfCode_roleByte (r : Role) : roleOfCode (BitVec.ofNat 8 (roleCode r)).toNat = some r := by
  cases r <;> rfl

theorem scopeOfCode_scopeByte (c : Scope) : scopeOfCode (BitVec.ofNat 8 (scopeCode c)).toNat = some c := by
  cases c <;> rfl

theorem flagsByte_fields (seen streamOpen epochPresent : Bool) (c : Consistency) :
    (flagsByte seen streamOpen epochPresent c).getLsbD 0 = seen
    ∧ (flagsByte seen streamOpen epochPresent c).getLsbD 1 = streamOpen
    ∧ (flagsByte seen streamOpen epochPresent c).getLsbD 2 = epochPresent
    ∧ consistencyOfCode ((flagsByte seen streamOpen epochPresent c).extractLsb' 4 2).toNat = some c := by
  revert seen streamOpen epochPresent
  cases c <;> decide

theorem epochOf_epochField (e : Option Half) :
    epochOf e.isSome ((epochField e).extractLsb' 8 8) ((epochField e).extractLsb' 0 8) = e := by
  cases e
  · rfl
  · simp [epochOf, epochField, halfOf_bytes]

theorem length_maskBytes (words : List DataWord) : (maskBytes words).length = (words.length + 1) / 2 := by
  induction words using maskBytes.induct with
  | case1 => rfl
  | case2 w => simp [maskBytes]
  | case3 w0 w1 rest ih =>
    simp only [maskBytes, List.length_cons, ih]
    omega

theorem masksOf_maskBytes (words : List DataWord) :
    (masksOf (maskBytes words)).take words.length = words.map DataWord.mask := by
  have low (x y : LaneMask) : (x ++ y : Byte).extractLsb' 0 4 = y := by
    rw [BitVec.extractLsb'_append_eq_of_add_le (by omega), BitVec.extractLsb'_eq_self]
  have high (x y : LaneMask) : (x ++ y : Byte).extractLsb' 4 4 = x := by
    rw [BitVec.extractLsb'_append_eq_of_le le_rfl]
    exact BitVec.extractLsb'_eq_self
  induction words using maskBytes.induct with
  | case1 => rfl
  | case2 w => simp [maskBytes, masksOf, low]
  | case3 w0 w1 rest ih => simp [maskBytes, masksOf, low, high, ih]

theorem wordsOf_wordBytes (words : List DataWord) :
    wordsOf (words.flatMap fun w => wordBytes w.data) = words.map DataWord.data := by
  induction words with
  | nil => rfl
  | cons w rest ih =>
    simp only [List.flatMap_cons, wordBytes, List.map_cons, List.cons_append, List.nil_append, wordsOf, wordOf_bytes] at ih ⊢
    rw [ih]

theorem length_flatMap_wordBytes (words : List DataWord) :
    (words.flatMap fun w => wordBytes w.data).length = 4 * words.length := by
  induction words with
  | nil => rfl
  | cons w rest ih =>
    rw [List.flatMap_cons, List.length_append, ih, List.length_cons]
    simp [wordBytes]
    omega

theorem zipWith_words (words : List DataWord) :
    List.zipWith DataWord.mk (words.map DataWord.mask) (words.map DataWord.data) = words := by
  induction words with
  | nil => rfl
  | cons w rest ih => rw [List.map_cons, List.map_cons, List.zipWith_cons_cons, ih]

/-- The three bytes of an address put together again (11.2). -/
theorem threeBytes_join (x : BitVec 24) : x.extractLsb' 16 8 ++ x.extractLsb' 8 8 ++ x.extractLsb' 0 8 = x := by
  have upper : x.extractLsb' 16 8 ++ x.extractLsb' 8 8 = x.extractLsb' 8 16 :=
    BitVec.extractLsb'_append_extractLsb'_eq_extractLsb' rfl
  rw [upper]
  exact BitVec.extractLsb'_append_extractLsb'

theorem regionByte_fields (region : BitVec 4) : (BitVec.ofNat 8 region.toNat).toNat ≤ 15
    ∧ (BitVec.ofNat 8 region.toNat).extractLsb' 0 4 = region := by
  have small := region.isLt
  have value : (BitVec.ofNat 8 region.toNat).toNat = region.toNat := by
    rw [BitVec.toNat_ofNat]
    omega
  refine ⟨by omega, BitVec.eq_of_toNat_eq ?_⟩
  rw [BitVec.extractLsb'_toNat, value, Nat.shiftRight_zero, Nat.mod_eq_of_lt small]

theorem bodyBytes_data (kind : DataKind) (region : BitVec 4) (start : WordAddr) (words : List DataWord) :
    bodyBytes (.data kind region start words) = BitVec.ofNat 8 region.toNat
      :: (start ++ 0#2 : BitVec 24).extractLsb' 16 8 :: (start ++ 0#2 : BitVec 24).extractLsb' 8 8
      :: (start ++ 0#2 : BitVec 24).extractLsb' 0 8 :: BitVec.ofNat 8 words.length
      :: (maskBytes words ++ words.flatMap fun w => wordBytes w.data) := rfl

theorem parseData_bodyBytes {kind : DataKind} {region : BitVec 4} {start : WordAddr} {words : List DataWord}
    (some : 1 ≤ words.length) (few : words.length ≤ 16) (inside : start.byte + 4 * words.length ≤ Config.addressSpace)
    (full : kind = .sync → words.length = 16 ∧ (words.all fun w => w.mask == fullMask) = true) :
    parseData kind (bodyBytes (.data kind region start words)) = .some (.data kind region start words) := by
  obtain ⟨index, regionBack⟩ := regionByte_fields region
  have count : (BitVec.ofNat 8 words.length).toNat = words.length := by
    rw [BitVec.toNat_ofNat]
    omega
  have address : ((start ++ 0#2 : BitVec 24).extractLsb' 2 22) = start := by
    rw [BitVec.extractLsb'_append_eq_of_le le_rfl]
    exact BitVec.extractLsb'_eq_self
  have aligned : ((start ++ 0#2 : BitVec 24).extractLsb' 0 2) = 0#2 := by
    rw [BitVec.extractLsb'_append_eq_of_add_le (by omega), BitVec.extractLsb'_eq_self]
  have split_ : (words.length + 1) / 2 = (maskBytes words).length := (length_maskBytes words).symm
  have length : (maskBytes words ++ words.flatMap fun w => wordBytes w.data).length =
      (maskBytes words).length + 4 * words.length := by
    rw [List.length_append, length_flatMap_wordBytes]
  rw [bodyBytes_data]
  simp only [parseData, threeBytes_join, count, address, aligned, split_, List.take_left, List.drop_left,
    masksOf_maskBytes, wordsOf_wordBytes, zipWith_words, regionBack]
  rw [if_pos ⟨some, few, index, trivial, inside, length, full⟩]

theorem frameWf_data_iff {n : Half} {kind : DataKind} {region : BitVec 4} {start : WordAddr} {words : List DataWord} :
    frameWf (.record n (.data kind region start words)) = true ↔
      1 ≤ words.length ∧ words.length ≤ 16 ∧ start.byte + 4 * words.length ≤ Config.addressSpace
        ∧ (kind = .sync → words.length = 16 ∧ (words.all fun w => w.mask == fullMask) = true) := by
  cases kind <;> simp [frameWf, and_assoc]

theorem parseBody_bodyBytes {n : Half} {body : RecordBody} (wf : frameWf (.record n body) = true) :
    parseBody (BitVec.ofNat 8 (kindCode body)) (bodyBytes body) = some body := by
  rw [parseBody_eq]
  cases body with
  | data kind region start words =>
    obtain ⟨some, few, inside, full⟩ := frameWf_data_iff.mp wf
    have parsed := parseData_bodyBytes (region := region) some few inside full
    cases kind <;> exact parsed
  | beginMark epoch scope =>
    change (scopeOfCode _).map (RecordBody.beginMark (halfOf _ _)) = _
    rw [scopeOfCode_scopeByte, halfOf_bytes]
    rfl
  | endMark => rfl
  | handoverMark epoch =>
    change some (RecordBody.handoverMark (halfOf _ _)) = _
    rw [halfOf_bytes]

/-- A frame that its sender may form is parsed back from its payload. -/
theorem parseFrame_framePayload {f : Frame} (wf : frameWf f = true) : parseFrame (frameType f) (framePayload f) = some f := by
  cases f with
  | hello h =>
    obtain ⟨seen, streams, epoch, judged⟩ := flagsByte_fields h.seen h.streamOpen h.epoch.isSome h.consistency
    simp only [frameType, framePayload, halfBytes, List.cons_append, List.nil_append, parseFrame, roleOfCode_roleByte,
      judged, seen, streams, epoch, epochOf_epochField, halfOf_bytes]
  | pulse p =>
    obtain ⟨-, -, epoch, judged⟩ := flagsByte_fields false false p.epoch.isSome p.consistency
    simp only [frameType, framePayload, halfBytes, List.cons_append, List.nil_append, parseFrame, roleOfCode_roleByte,
      judged, epoch, epochOf_epochField, halfOf_bytes]
  | ack n => simp only [frameType, framePayload, halfBytes, parseFrame, halfOf_bytes]
  | nak n => simp only [frameType, framePayload, halfBytes, parseFrame, halfOf_bytes]
  | record n body =>
    have read : parseFrame .record (framePayload (.record n body)) =
        (parseBody (BitVec.ofNat 8 (kindCode body)) (bodyBytes body)).map (Frame.record (halfOf _ _)) := rfl
    rw [frameType, read, parseBody_bodyBytes wf, Option.map_some, halfOf_bytes]

theorem length_framePayload {f : Frame} (wf : frameWf f = true) : (framePayload f).length ≤ 80 := by
  cases f with
  | record n body =>
    cases body with
    | data kind region start words =>
      obtain ⟨-, few, -, -⟩ := frameWf_data_iff.mp wf
      simp only [framePayload, halfBytes, bodyBytes_data, List.length_append, List.length_cons, List.length_nil,
        length_maskBytes, length_flatMap_wordBytes]
      omega
    | _ => simp [framePayload, halfBytes, bodyBytes]
  | _ => simp [framePayload, halfBytes]

/-! ### The characters of a frame received in turn (R58, R59, R61) -/

section
variable {s : State}

theorem runAll_cons {c : Instr} {rest : List Instr} {t : State} (h : exec c s = .next t) :
    runAll (c :: rest) s = runAll rest t := by
  rw [runAll, h]

theorem runAll_append {xs ys : List Instr} {t : State} (h : runAll xs s = .next t) :
    runAll (xs ++ ys) s = runAll ys t := by
  induction xs generalizing s with
  | nil => rw [List.nil_append, Host.Outcome.next.inj h]
  | cons c rest ih =>
    rw [runAll] at h
    rw [List.cons_append, runAll]
    split at h
    next u one => exact ih h
    next other => exact absurd h (other t)

/-- A start-of-frame character begins a frame between frames (R58). -/
theorem linkCharacter_sof {t : FrameType} (receiver : s.rx.receiver = .hunting)
    (idle : ∀ t data crc, s.rx.assembler ≠ .inFrame t data crc) :
    exec (.linkCharacter (characterBits true (sofCode t))) s = .next (setAssembler (beginFrame t) s) := by
  have symbol : symbolOf (characterBits true (sofCode t)) = .sof t := by
    rw [symbolOf_characterBits, if_pos rfl, symbolOfCode_sofCode]
  rw [linkCharacter_of_taken receiver (characterBits_start true _), takeCharacter_of_symbol (by simp [symbol]), symbol,
    (assemble_between idle).1 t]

/-- A data character of a frame that has room joins it (R59). -/
theorem linkCharacter_data {t : FrameType} {data : List Byte} {crc : Half} (b : Byte)
    (receiver : s.rx.receiver = .hunting) (assembler : s.rx.assembler = .inFrame t data crc) (room : data.length < 82) :
    exec (.linkCharacter (characterBits false b)) s =
      .next (setAssembler (.inFrame t (data ++ [b]) (crcByte crc b)) s) := by
  have symbol : symbolOf (characterBits false b) = .data b := symbolOf_characterBits false b
  rw [linkCharacter_of_taken receiver (characterBits_start false _), takeCharacter_of_symbol (by simp [symbol]), symbol,
    assemble_of_inFrame (.data b) assembler]
  exact congrArg Host.Outcome.next (if_pos room)

/-- The data characters of a frame, one after another, with the running CRC over all of them. -/
theorem runAll_data {t : FrameType} (xs : List Byte) {data : List Byte} (receiver : s.rx.receiver = .hunting)
    (assembler : s.rx.assembler = .inFrame t data (crc16 (sofCode t :: data))) (room : data.length + xs.length ≤ 82) :
    runAll ((xs.map (characterBits false)).map Instr.linkCharacter) s =
      .next (setAssembler (.inFrame t (data ++ xs) (crc16 (sofCode t :: (data ++ xs)))) s) := by
  induction xs generalizing s data with
  | nil =>
    rw [List.append_nil, setAssembler, ← assembler]
    rfl
  | cons b rest ih =>
    rw [List.length_cons] at room
    have running : crcByte (crc16 (sofCode t :: data)) b = crc16 (sofCode t :: (data ++ [b])) :=
      (crc16_concat (sofCode t :: data) b).symm
    rw [List.map_cons, List.map_cons, runAll_cons (linkCharacter_data b receiver assembler (by omega)), running,
      ih (s := setAssembler (.inFrame t (data ++ [b]) (crc16 (sofCode t :: (data ++ [b])))) s) receiver rfl
        (by rw [List.length_append, List.length_singleton]; omega), List.append_assoc]
    rfl

theorem linkCharacter_eof {t : FrameType} {data : List Byte} {crc : Half} (receiver : s.rx.receiver = .hunting)
    (assembler : s.rx.assembler = .inFrame t data crc) :
    exec (.linkCharacter (characterBits true eofCode)) s = .next (judgeFrame t data crc s) :=
  linkCharacter_of_eof receiver (characterBits_start true _) (symbolOf_characterBits true _) assembler

/-- A frame that its sender may form is received whole (R55, R58 to R62). -/
theorem runAll_frameCharacters {f : Frame} (wf : frameWf f = true) (receiver : s.rx.receiver = .hunting)
    (idle : ∀ t data crc, s.rx.assembler ≠ .inFrame t data crc) :
    runAll ((frameCharacters f).map Instr.linkCharacter) s = .next (placeFrame f s) := by
  let t := frameType f
  let data := framePayload f ++ halfBytes (frameCrc f)
  have room : ([] : List Byte).length + data.length ≤ 82 := by
    have := length_framePayload wf
    simp only [data, List.length_nil, List.length_append, halfBytes, List.length_cons]
    omega
  have collected := runAll_data (s := setAssembler (beginFrame t) s) (t := t) data receiver rfl room
  have good : goodFrame t data (crc16 (sofCode t :: data)) = some f :=
    goodFrame_of_own.trans (parseFrame_framePayload wf)
  have ended := linkCharacter_eof (s := setAssembler (.inFrame t data (crc16 (sofCode t :: data)))
    (setAssembler (beginFrame t) s)) receiver rfl
  rw [frameCharacters, List.map_append, List.map_append, List.append_assoc, List.map_singleton, List.singleton_append,
    runAll_cons (linkCharacter_sof receiver idle), runAll_append collected, List.map_singleton, List.nil_append,
    runAll_cons ended, judgeFrame_of_good good]
  rfl

end

/-! ### The bytes of a payload, as numbers (11.2) -/

theorem eq_roleCode {k : Nat} {r : Role} (h : [Role.none, .active, .standby][k]? = some r) : k = roleCode r := by
  rcases k with _ | _ | _ | k <;> simp at h <;> subst h <;> rfl

theorem eq_consistencyCode {j : Nat} {c : Consistency}
    (h : [Consistency.inconsistent, .resyncing, .consistent][j]? = some c) : j = consistencyCode c := by
  rcases j with _ | _ | _ | j <;> simp at h <;> subst h <;> rfl

theorem roleByte_toNat (r : Role) : (BitVec.ofNat 8 (roleCode r)).toNat = roleCode r := by cases r <;> rfl

theorem flagsByte_toNat (seen streamOpen epochPresent : Bool) (c : Consistency) :
    (flagsByte seen streamOpen epochPresent c).toNat =
      seen.toNat + 2 * streamOpen.toNat + 4 * epochPresent.toNat + 16 * consistencyCode c := by
  have := Bool.toNat_le seen
  have := Bool.toNat_le streamOpen
  have := Bool.toNat_le epochPresent
  have : consistencyCode c ≤ 2 := by cases c <;> decide
  rw [flagsByte, BitVec.toNat_ofNat]
  omega

theorem byteOf_toNat {w : Nat} (x : BitVec w) (lo : Nat) : (x.extractLsb' lo 8).toNat = x.toNat / 2 ^ lo % 256 := by
  rw [BitVec.extractLsb'_toNat, Nat.shiftRight_eq_div_pow]

theorem wordBytes_toNat (w : Word) : (wordBytes w).map BitVec.toNat =
    [w.toNat / 2 ^ 24, w.toNat / 2 ^ 16 % 256, w.toNat / 2 ^ 8 % 256, w.toNat % 256] := by
  have top : w.toNat / 2 ^ 24 < 256 := by
    have := w.isLt
    omega
  simp only [wordBytes, List.map_cons, List.map_nil, byteOf_toNat, Nat.mod_eq_of_lt top, Nat.pow_zero, Nat.div_one]

/-- The address bytes hold the byte address (11.2). -/
theorem addrBytes_toNat (a : WordAddr) : (addrBytes a).map BitVec.toNat =
    [4 * a.toNat / 65536, 4 * a.toNat / 256 % 256, 4 * a.toNat % 256] := by
  have whole : (a ++ 0#2 : BitVec 24).toNat = 4 * a.toNat := by
    rw [BitVec.toNat_append, BitVec.toNat_zero, Nat.or_zero, Nat.shiftLeft_eq]
    omega
  have top : 4 * a.toNat / 2 ^ 16 < 256 := by
    have := a.isLt
    omega
  simp only [addrBytes, List.map_cons, List.map_nil, byteOf_toNat, whole, Nat.pow_zero, Nat.div_one]
  rw [Nat.mod_eq_of_lt top]
  rfl

/-- The mask of word `i` of a record; 0 where there is none. -/
def maskAt (words : List DataWord) (i : Nat) : Nat := ((words[i]?).map fun w => w.mask.toNat).getD 0

theorem maskBytes_toNat (words : List DataWord) : (maskBytes words).map BitVec.toNat =
    (List.range ((words.length + 1) / 2)).map fun k => maskAt words (2 * k) + 16 * maskAt words (2 * k + 1) := by
  have pair (x y : LaneMask) : (x ++ y : Byte).toNat = y.toNat + 16 * x.toNat := by
    rw [BitVec.toNat_append, ← Nat.shiftLeft_add_eq_or_of_lt y.isLt, Nat.shiftLeft_eq]
    omega
  induction words using maskBytes.induct with
  | case1 => rfl
  | case2 w => simp [maskBytes, maskAt, pair]
  | case3 w0 w1 rest ih =>
    have count : ((w0 :: w1 :: rest).length + 1) / 2 = (rest.length + 1) / 2 + 1 := by
      simp only [List.length_cons]
      omega
    rw [count, List.range_succ_eq_map, List.map_cons, List.map_map, maskBytes, List.map_cons, ih, pair]
    rfl

/-- Settles O22: the characters of a frame in turn, and the layout of each payload. -/
theorem frameReceivedWhole : Obligations.FrameReceivedWhole := by
  refine ⟨fun f s wf receiver between => ?_, ?_⟩
  · have idle : ∀ t data crc, s.rx.assembler ≠ .inFrame t data crc := by
      rcases between with hunt | discard
      · simp [hunt]
      · simp [discard]
    rw [runAll_frameCharacters wf receiver idle]
    rfl
  intro bytes two
  have half (h : Half) : (halfBytes h).map BitVec.toNat = two h := halfBytes_toNat h
  refine ⟨fun h k j role judged => ?_, fun p k j role judged => ?_, fun n => ⟨half n, half n⟩, fun n epoch => ?_,
    fun n kind region start words few => ?_⟩
  · obtain rfl := eq_roleCode role
    obtain rfl := eq_consistencyCode judged
    simp only [bytes, framePayload, List.map_append, List.map_cons, List.map_nil, half, roleByte_toNat, flagsByte_toNat]
    rfl
  · obtain rfl := eq_roleCode role
    obtain rfl := eq_consistencyCode judged
    simp only [bytes, framePayload, List.map_append, List.map_cons, List.map_nil, half, roleByte_toNat, flagsByte_toNat]
    simp [epochField]
  · simp only [bytes, framePayload, bodyBytes, kindCode, scopeCode, List.map_append, List.map_cons, List.map_nil, half]
    simp
  · intro mask a
    have index : (BitVec.ofNat 8 region.toNat).toNat = region.toNat := by
      have := region.isLt
      rw [BitVec.toNat_ofNat]
      omega
    have count : (BitVec.ofNat 8 words.length).toNat = words.length := by
      rw [BitVec.toNat_ofNat]
      omega
    have code : (BitVec.ofNat 8 (kindCode (.data kind region start words))).toNat = if kind = .write then 1 else 2 := by
      cases kind <;> rfl
    have data : (words.flatMap fun w => wordBytes w.data).map BitVec.toNat = words.flatMap fun w =>
        [w.data.toNat / 2 ^ 24, w.data.toNat / 2 ^ 16 % 256, w.data.toNat / 2 ^ 8 % 256, w.data.toNat % 256] := by
      simp only [List.map_flatMap, wordBytes_toNat]
    simp only [bytes, framePayload, bodyBytes, List.map_append, List.map_cons, List.map_nil, half, index, count, code, data,
      addrBytes_toNat, maskBytes_toNat]
    simp [maskAt, mask, a]


end Sys2Proof.Machine
end

section
/-! PROOFS. The scheduler's preference, and the offered record's start. -/

namespace Sys2Proof.Machine

open Sys2Proof.Safety

section
variable {s : State}

/-! ### The scheduler's branches (R64) -/

theorem mayStart_iff : mayStart s = true ↔ s.phase = .running ∧ s.pair.link ≠ .off ∧ s.tx.serializer = .free := by
  simp [mayStart, and_assoc]

theorem schedule_of_not_mayStart (h : mayStart s = false) : schedule s = s := by simp [schedule, h]

theorem schedule_of_hello (may : mayStart s = true) (due : s.tx.helloDue = true) : schedule s = startHello s := by
  simp [schedule, may, due]

theorem schedule_of_ack (may : mayStart s = true) (due : s.tx.helloDue = false) (link : s.pair.link = .up)
    (request : s.tx.ackRequest ≠ .none) : schedule s = startAck s := by
  simp [schedule, may, due, ackReady, link, request]

theorem schedule_of_record {r : Rec} (may : mayStart s = true) (due : s.tx.helloDue = false)
    (request : s.tx.ackRequest = .none) (offered : offeredRecord s = some r) : schedule s = startRecord r s := by
  simp [schedule, may, due, ackReady, request, offered]

theorem schedule_of_pulse (may : mayStart s = true) (due : s.tx.helloDue = false) (request : s.tx.ackRequest = .none)
    (offered : offeredRecord s = none) (link : s.pair.link = .up) (pulse : s.tx.pulseDue = true) :
    schedule s = startPulse s := by
  simp [schedule, may, due, ackReady, request, offered, pulseReady, link, pulse]

theorem schedule_of_nothing (due : s.tx.helloDue = false) (request : s.tx.ackRequest = .none ∨ s.pair.link ≠ .up)
    (offered : offeredRecord s = none) (pulse : s.tx.pulseDue = false ∨ s.pair.link ≠ .up) : schedule s = s := by
  have noAck : ackReady s = false := by rcases request with h | h <;> simp [ackReady, h]
  have noPulse : pulseReady s = false := by rcases pulse with h | h <;> simp [pulseReady, h]
  simp [schedule, due, noAck, noPulse, offered]

/-! ### What is offered (R30) -/

theorem takesAcks_iff : takesAcks s = true ↔ s.pair.role = .active ∧ s.pair.link = .up
    ∧ (s.stream.mode = .normal ∨ s.stream.mode = .resync ∨ s.stream.mode = .draining) := by
  simp [takesAcks, and_assoc, or_assoc]

theorem offeredRecord_of_not_offering (h : s.pair.role ≠ .active ∨ s.pair.link ≠ .up ∨ s.pair.partner.role ≠ .standby
    ∨ s.stream.mode = .closed ∨ s.stream.mode = .tracking) : offeredRecord s = none := by
  have none : offersRecords s = false := by
    refine Bool.eq_false_of_not_eq_true fun offers => ?_
    rw [offersRecords, Bool.and_eq_true, takesAcks_iff, beq_iff_eq] at offers
    obtain ⟨⟨role, link, mode⟩, partner⟩ := offers
    rcases h with h | h | h | h | h
    · exact h role
    · exact h link
    · exact h partner
    · simp [h] at mode
    · simp [h] at mode
  simp [offeredRecord, none]

/-- Only the HANDOVER record of a running handover commits it (R91). -/
theorem committedBy_eq (body : RecordBody) (s : State) : { s.mgmt with result := committedBy body s } =
    if (∃ e, body = .handoverMark e) ∧ handoverRunning s then
      { s.mgmt with result := { s.mgmt.result with detail := .committed } } else s.mgmt := by
  unfold committedBy
  split
  next e => by_cases running : handoverRunning s <;> simp [running]
  next other =>
    rw [if_neg]
    rintro ⟨⟨e, rfl⟩, -⟩
    exact other e rfl

section
variable {before after : List Rec} {r : Rec} (records : s.list.records = before ++ r :: after)
  (sent : ∀ x ∈ before, x.state = .sent) (unsent : ∀ x ∈ r :: after, x.state ≠ .sent)
include records sent unsent

theorem sentCount_of_split : sentCount s.list = before.length := by
  have all : before.countP isSent = before.length := List.countP_eq_length.mpr fun x hx => by simp [isSent, sent x hx]
  have none : (r :: after).countP isSent = 0 := List.countP_eq_zero.mpr fun x hx => by simp [isSent, unsent x hx]
  rw [sentCount, records, List.countP_append, all, none, Nat.add_zero]

/-- The oldest record that is not SENT is offered when it is PENDING and the window has room. -/
theorem offeredRecord_of_split : offeredRecord s =
    if offersRecords s = true ∧ before.length < s.cfg.window.toNat ∧ r.state = .pending then some r else none := by
  have skip : before.find? (fun x => !isSent x) = none :=
    List.find?_eq_none.mpr fun x hx => by simp [isSent, sent x hx]
  have first : s.list.records.find? (fun x => !isSent x) = some r := by
    rw [records, List.find?_append, skip, List.find?_cons_of_pos (by simp [isSent, unsent r])]
    rfl
  rw [offeredRecord, sentCount_of_split records sent unsent, first, Option.filter_some]
  by_cases offers : offersRecords s <;> by_cases room : before.length < s.cfg.window.toNat <;>
    by_cases pending : r.state = .pending <;> simp [offers, room, pending]

theorem sentList_of_split : sentList r s = { s.list with
    records := before ++ { r with state := .sent, transmitted := true } :: after
    retransmits := if r.transmitted then countUp s.list.retransmits else s.list.retransmits
    retryTimer := if r.transmitted ∨ before = [] then some s.cfg.retryTimeout.toNat else s.list.retryTimer } := by
  have sends : sendFirst s.list.records = before ++ { r with state := .sent, transmitted := true } :: after := by
    rw [records, sendFirst_append (by simpa [isSent] using sent) (by simp [isSent, unsent r])]
  rw [sentList, sends, sentCount_of_split records sent unsent]
  simp

end

end

/-- Settles O26: the fields of the two frames by the role, and the scheduler's branches. -/
theorem schedulerPrefers : Obligations.SchedulerPrefers := by
  refine ⟨fun s => ⟨rfl, rfl, rfl, ?_, ?_, fun role => ?_, fun role => ?_, fun role => ?_⟩, fun s => ?_⟩
  · simp [helloNow, helloSeen, or_assoc]
  · simp [helloNow]
  · simp [helloNow, pulseNow, reportedEpoch, reportedConsistency, reportedSeqA, reportedSeqB, role]
  · simp [helloNow, pulseNow, reportedEpoch, reportedConsistency, reportedSeqA, reportedSeqB, role]
  · simp [helloNow, pulseNow, reportedEpoch, reportedConsistency, reportedSeqA, reportedSeqB, role]
  intro starts
  refine ⟨fun shut => schedule_of_not_mayStart ?_, fun phase link serializer => ?_⟩
  · refine Bool.eq_false_of_not_eq_true fun may => ?_
    obtain ⟨phase, link, serializer⟩ := mayStart_iff.mp may
    tauto
  have may := mayStart_iff.mpr ⟨phase, link, serializer⟩
  refine ⟨schedule_of_hello may, fun due up => ⟨fun request => ?_, fun request => ?_, fun request => ⟨fun r offered => ?_,
    fun offered pulse => schedule_of_pulse may due request offered up pulse,
    fun offered pulse => schedule_of_nothing due (.inl request) offered (.inl pulse)⟩⟩, fun due down => ?_⟩
  · rw [schedule_of_ack may due up (by simp [request]), startAck, ackFrame, request]
    rfl
  · rw [schedule_of_ack may due up (by simp [request]), startAck, ackFrame, request]
    rfl
  · exact ⟨_, rfl, by rw [schedule_of_record may due request offered]; rfl⟩
  · exact schedule_of_nothing due (.inr down) (offeredRecord_of_not_offering (.inr (.inl down))) (.inr down)

/-- Settles O27: the split of the list at the oldest record that is not SENT. -/
theorem oldestUnsentRecordStarts : Obligations.OldestUnsentRecordStarts := by
  refine ⟨fun s before after r phase role link serializer due request partner mode records sent unsent => ?_,
    fun s h => offeredRecord_of_not_offering h⟩
  have may : mayStart s = true := mayStart_iff.mpr ⟨phase, by simp [link], serializer⟩
  have offers : offersRecords s = true := by
    rw [offersRecords, takesAcks_iff.mpr ⟨role, link, mode⟩, partner]
    rfl
  have offered := offeredRecord_of_split records sent unsent
  refine ⟨fun pending room => ?_, fun shut pulse => ?_⟩
  · rw [if_pos ⟨offers, room, pending⟩] at offered
    rw [schedule_of_record may due request offered, startRecord, sentList_of_split records sent unsent]
    rw [← committedBy_eq r.body s]
    rfl
  · rw [if_neg (by rintro ⟨-, room, pending⟩; simp [pending] at shut; omega)] at offered
    exact schedule_of_nothing due (.inl request) offered (.inl pulse)

end Sys2Proof.Machine
end

section
/-! PROOFS. Departures from UP, the ends of a handover, and the expiries of the pairing controller. -/

namespace Sys2Proof.Machine

open Sys2Proof.Safety

section
variable {s : State}

/-! ### The HANDOVER record in a list (R91) -/

theorem handoverIn_of_none {rs : List Rec} (h : ∀ r ∈ rs, ∀ e, r.body ≠ .handoverMark e) : handoverIn rs = none := by
  refine List.findSome?_eq_none_iff.mpr fun r hr => ?_
  split
  next e body => exact absurd body (h r hr e)
  next => rfl

theorem handoverIn_singleton {r : Rec} {epoch : Half} (body : r.body = .handoverMark epoch) :
    handoverIn [r] = some (epoch, r.seq) := by
  simp [handoverIn, body]

theorem handoverIn_clearWaiters (rs : List Rec) : handoverIn (clearWaiters rs) = handoverIn rs := by
  simp [handoverIn, clearWaiters, List.findSome?_map, Function.comp_def]

/-! ### The ends of a handover (R92, R94) -/

/-- What a cancellation leaves (R94). -/
theorem handoverCancel_facts (reason : Reason) (s : State) : let t := handoverCancel reason s
    t.pair = { s.pair with drainTimer := none } ∧ t.stream = { s.stream with mode := .normal }
    ∧ t.list = dropHandover s.list ∧ flagSet t.events.flags .commandEnd = true
    ∧ t.mgmt = { s.mgmt with result := { s.mgmt.result with
        state := .refused, reason := reason, detail := s.mgmt.result.detail } } := by
  intro t
  refine ⟨?_, ?_, ?_, ?_, ?_⟩ <;> simp [t, handoverCancel, endCommand]

/-- What a completion leaves of an ACTIVE unit (R92). -/
theorem handoverComplete_facts (outcome : Detail) (epoch seq : Half) (s : State) :
    let t := handoverComplete outcome epoch seq s
    t.pair.role = .standby ∧ t.pair.drainTimer = none ∧ t.pair.partner = s.pair.partner
    ∧ t.pair.link = (changeRole .standby s).pair.link
    ∧ t.stream = { s.stream with mode := .closed, isOpen := false, basisValid := false, epoch := epoch }
    ∧ t.apply.consistency = .consistent ∧ t.apply.heldEpoch = some epoch ∧ t.apply.expected = seq + 1#16
    ∧ t.list = (changeRole .standby s).list ∧ t.dirty = (changeRole .standby s).dirty
    ∧ t.host = (changeRole .standby s).host
    ∧ t.mgmt.result = { s.mgmt.result with state := .done, reason := .none, detail := outcome }
    ∧ flagSet t.events.flags .roleChanged = true ∧ flagSet t.events.flags .commandEnd = true := by
  intro t
  have roleChanged : flagSet t.events.flags .roleChanged = true := flagSet_raise _ (changeRole_roleChanged s .standby)
  refine ⟨?_, ?_, ?_, ?_, ?_, ?_, ?_, ?_, ?_, ?_, ?_, ?_, roleChanged, ?_⟩ <;> simp [t, handoverComplete, endCommand]

theorem dropHandover_of_none {l : ReplayList} (h : ∀ r ∈ l.records, ∀ e, r.body ≠ .handoverMark e) : dropHandover l = l := by
  simp [dropHandover, handoverIn_of_none h]

theorem dropHandover_of_some {l : ReplayList} {x : Half × Half} (h : handoverIn l.records = some x) :
    dropHandover l = { l with records := l.records.dropLast, nextSeq := l.nextSeq - 1#16 } := by
  simp [dropHandover, h]

/-! ### A departure from UP (R39, R81) -/

/-- A plain event is taken alike before and after the link's new state is entered. -/
theorem enterLink_raise {e : Event} (new : LinkState) (lost : e ≠ .linkLost) (inconsistent : e ≠ .partnerInconsistent) :
    enterLink new (raise e s) = raise e (enterLink new s) := by
  rw [raise_plain lost inconsistent, raise_plain lost inconsistent]
  rfl

/-- What a departure from UP leaves of the unit, before the event of an ended confirm wait (R39, R66, R81, R124). -/
def departed (new : LinkState) (s : State) : State := { s with
  pair := { s.pair with
    link := new
    helloTimer := if new = .off then none else some s.cfg.helloInterval.toNat
    lossTimer := if new = .handshake then some (s.pair.lossTimer.getD s.cfg.lossTimeout.toNat) else none }
  tx := { s.tx with helloDue := decide (new ≠ .off), pulseDue := false, pulseTimer := none }
  list := { s.list with
    records := if isWithheld s then clearWaiters s.list.records else s.list.records
    retryTimer := none
    retryCount := 0 }
  walker := { s.walker with
    run := if s.walker.run = .running ∧ fillsSync s.list = false then .paused else s.walker.run
    pauseDue := decide (s.walker.run = .running ∧ fillsSync s.list = true) || s.walker.pauseDue }
  host := if isWithheld s then { s.host with port := .idle, response := some .fault, confirmTimer := none } else s.host }

/-- The states a link may leave UP for have one timer each: HANDSHAKE the loss timer, but in OFF the HELLO timer. -/
theorem enterLink_of_up {new : LinkState} (up : s.pair.link = .up)
    (target : new = .down ∨ new = .handshake ∨ new = .off) : enterLink new s = { s with
      pair := { s.pair with
        link := new
        helloTimer := if new = .off then none else some s.cfg.helloInterval.toNat
        lossTimer := if new = .handshake then some (s.pair.lossTimer.getD s.cfg.lossTimeout.toNat) else none }
      tx := { s.tx with helloDue := decide (new ≠ .off) } } := by
  rcases target with rfl | rfl | rfl <;> simp [enterLink, helloTimerAt, lossTimerAt, up]

/-- A walker's pause as a departure from UP brings it about (R124). -/
theorem pauseWalker_eq (s : State) : pauseWalker s = { s with walker := { s.walker with
    run := if s.walker.run = .running ∧ fillsSync s.list = false then .paused else s.walker.run
    pauseDue := decide (s.walker.run = .running ∧ fillsSync s.list = true) || s.walker.pauseDue } } := by
  unfold pauseWalker
  by_cases run : s.walker.run = .running <;> by_cases fills : fillsSync s.list = true <;> simp [run, fills]

theorem leaveUpCore_eq {new : LinkState} (up : s.pair.link = .up)
    (target : new = .down ∨ new = .handshake ∨ new = .off) : leaveUpCore new s =
      if isWithheld s then raise .confirmFail (departed new s) else departed new s := by
  have held : isWithheld (pauseWalker (quieted s)) = isWithheld s := isWithheld_pauseWalker_quieted s
  rw [leaveUpCore_of_up s new up, failConfirmWait, held]
  by_cases waits : isWithheld s = true
  · rw [if_pos waits, if_pos waits, enterLink_raise new (by decide) (by decide), pauseWalker_eq,
      enterLink_of_up (s := endConfirmWait .fault { quieted s with walker := _ }) up target, departed, waits]
    rfl
  · rw [if_neg waits, if_neg waits, pauseWalker_eq, enterLink_of_up (s := { quieted s with walker := _ }) up target,
      departed, Bool.eq_false_of_not_eq_true waits]
    rfl

/-- A departure from UP with a handover under way: the link's own part, and then the handover's end (R94). -/
theorem leaveUp_of_running (new : LinkState) (up : s.pair.link = .up) (pending : s.apply.handoverPending = none) :
    leaveUp new s = handoverOffUp (leaveUpCore new s) := by
  have kept : takeHandoverRole (leaveUpCore new s) = leaveUpCore new s := by
    simp [takeHandoverRole, leaveUpCore_apply, pending]
  rw [leaveUp, if_pos up, kept]

theorem handoverOffUp_of_committed {epoch seq : Half} (running : handoverRunning s = true)
    (phase : s.mgmt.result.detail = .committed) (record : handoverIn s.list.records = some (epoch, seq)) :
    handoverOffUp s = handoverComplete .unconfirmed epoch seq s := by
  rw [handoverOffUp, if_pos running, phase, record]

theorem handoverOffUp_of_cancelled (running : handoverRunning s = true)
    (phase : s.mgmt.result.detail ≠ .committed ∨ handoverIn s.list.records = none) :
    handoverOffUp s = handoverCancel .linkLost s := by
  rw [handoverOffUp, if_pos running]
  split
  next epoch seq committed record => rcases phase with h | h <;> simp_all
  next => rfl

/-- The pending handover of a unit that is not STANDBY is none (R98). -/
theorem pending_of_standbyOnly (only : standbyOnly s = true) (role : s.pair.role ≠ .standby) :
    s.apply.handoverPending = none := by
  simp [standbyOnly, role] at only
  tauto

theorem handoverRunning_congr {t : State} (h : t.mgmt.result = s.mgmt.result) : handoverRunning t = handoverRunning s := by
  simp [handoverRunning, h]

/-! ### A handover under way as the link leaves UP (R94) -/

section
variable {new : LinkState} (up : s.pair.link = .up) (active : s.pair.role = .active)
  (running : handoverRunning s = true) (only : standbyOnly s = true)
include up active running only

/-- The link's part of the departure, which the handover's end finds. -/
theorem leaveUp_handover_eq : leaveUp new s = handoverOffUp (leaveUpCore new s)
    ∧ handoverRunning (leaveUpCore new s) = true ∧ (leaveUpCore new s).mgmt = s.mgmt
    ∧ (leaveUpCore new s).pair.role = .active ∧ (leaveUpCore new s).pair.link = new
    ∧ handoverIn (leaveUpCore new s).list.records = handoverIn s.list.records := by
  refine ⟨leaveUp_of_running new up (pending_of_standbyOnly only (by simp [active])), ?_, leaveUpCore_mgmt s new,
    (leaveUpCore_role s new).trans active, ?_, ?_⟩
  · rw [handoverRunning_congr (congrArg MgmtPort.result (leaveUpCore_mgmt s new)), running]
  · rw [leaveUpCore_pair s new up]
  · rw [leaveUpCore_list s new up]
    dsimp only
    split
    · exact handoverIn_clearWaiters _
    · rfl

/-- The departure of a handover in any phase: its end stops the drain timer and ends the command. -/
theorem leaveUp_handover_ends (target : new = .down ∨ new = .handshake ∨ new = .off) :
    (leaveUp new s).pair.drainTimer = none ∧ flagSet (leaveUp new s).events.flags .commandEnd = true
      ∧ (leaveUp new s).pair.link = new ∧ (leaveUp new s).pair.partner = s.pair.partner := by
  obtain ⟨eq, running', mgmt, role, link, record⟩ := leaveUp_handover_eq (new := new) up active running only
  rw [eq]
  by_cases committed : s.mgmt.result.detail = .committed ∧ handoverIn s.list.records ≠ none
  · obtain ⟨phase, found⟩ := committed
    obtain ⟨⟨epoch, seq⟩, found⟩ := Option.ne_none_iff_exists'.mp found
    rw [handoverOffUp_of_committed running' (by rw [mgmt, phase]) (record.trans found)]
    obtain ⟨-, drain, partner, link', -, -, -, -, -, -, -, -, -, flag⟩ :=
      handoverComplete_facts .unconfirmed epoch seq (leaveUpCore new s)
    refine ⟨drain, flag, ?_, partner.trans (leaveUpCore_partner s new)⟩
    rw [link', changeRole_link, link]
    rcases target with rfl | rfl | rfl <;> rfl
  · have cancelled : (leaveUpCore new s).mgmt.result.detail ≠ .committed
        ∨ handoverIn (leaveUpCore new s).list.records = none := by
      rw [mgmt, record]
      tauto
    rw [handoverOffUp_of_cancelled running' cancelled]
    obtain ⟨pair, -, -, flag, -⟩ := handoverCancel_facts .linkLost (leaveUpCore new s)
    rw [pair]
    exact ⟨rfl, flag, link, leaveUpCore_partner s new⟩

/-- A departure before the HANDOVER record is in the list cancels the handover. -/
theorem leaveUp_handover_drain (phase : s.mgmt.result.detail = .drain)
    (unmarked : ∀ r ∈ s.list.records, ∀ e, r.body ≠ .handoverMark e) : let t := leaveUp new s
    t.pair.role = .active ∧ t.stream.mode = .normal ∧ t.list.nextSeq = s.list.nextSeq
      ∧ t.list.records.map Rec.seq = s.list.records.map Rec.seq ∧ t.mgmt.result.state = .refused
      ∧ t.mgmt.result.reason = .linkLost ∧ t.mgmt.result.detail = .drain := by
  obtain ⟨eq, running', mgmt, role, link, record⟩ := leaveUp_handover_eq (new := new) up active running only
  have none := record.trans (handoverIn_of_none unmarked)
  obtain ⟨pair, stream, list, -, mgmt'⟩ := handoverCancel_facts .linkLost (leaveUpCore new s)
  have kept : dropHandover (leaveUpCore new s).list = (leaveUpCore new s).list := by simp [dropHandover, none]
  intro t
  have t_eq : t = handoverCancel .linkLost (leaveUpCore new s) := by
    rw [← handoverOffUp_of_cancelled running' (.inr none), ← eq]
  rw [t_eq, pair, stream, list, mgmt', kept, mgmt]
  refine ⟨role, rfl, leaveUpCore_nextSeq s new, ?_, rfl, rfl, phase⟩
  rw [leaveUpCore_list s new up]
  dsimp only
  split
  · simp [clearWaiters, Function.comp_def]
  · rfl

/-- A departure with the HANDOVER record in the list and not yet sent removes it with its number. -/
theorem leaveUp_handover_marked {r : Rec} {epoch : Half} (records : s.list.records = [r])
    (body : r.body = .handoverMark epoch) (phase : s.mgmt.result.detail = .marked) : let t := leaveUp new s
    t.pair.role = .active ∧ t.stream.mode = .normal ∧ t.list.records = []
      ∧ t.list.nextSeq = s.list.nextSeq - 1#16 ∧ t.mgmt.result.state = .refused
      ∧ t.mgmt.result.reason = .linkLost ∧ t.mgmt.result.detail = .marked := by
  obtain ⟨eq, running', mgmt, role, link, record⟩ := leaveUp_handover_eq (new := new) up active running only
  have found := record.trans (records ▸ handoverIn_singleton body)
  obtain ⟨pair, stream, list, -, mgmt'⟩ := handoverCancel_facts .linkLost (leaveUpCore new s)
  have one : (leaveUpCore new s).list.records.length = 1 := by
    rw [leaveUpCore_list s new up, records]
    dsimp only
    split <;> rfl
  intro t
  have t_eq : t = handoverCancel .linkLost (leaveUpCore new s) := by
    rw [← handoverOffUp_of_cancelled running' (.inl (by rw [mgmt, phase]; decide)), ← eq]
  rw [t_eq, pair, stream, list, mgmt', dropHandover_of_some found, mgmt]
  refine ⟨role, rfl, ?_, by rw [← leaveUpCore_nextSeq s new], rfl, rfl, phase⟩
  obtain ⟨x, only_⟩ := List.length_eq_one_iff.mp one
  simp [only_]

/-- A departure in the committed phase completes the handover as UNCONFIRMED. -/
theorem leaveUp_handover_committed {r : Rec} {epoch : Half} (records : s.list.records = [r])
    (body : r.body = .handoverMark epoch) (phase : s.mgmt.result.detail = .committed) : let t := leaveUp new s
    t.pair.role = .standby ∧ t.apply.consistency = .consistent ∧ t.apply.heldEpoch = some epoch
      ∧ t.apply.expected = r.seq + 1#16 ∧ t.stream.epoch = epoch ∧ t.list.records = []
      ∧ t.list.nextSeq = s.list.nextSeq ∧ t.mgmt.result.state = .done
      ∧ t.mgmt.result.detail = .unconfirmed ∧ flagSet t.events.flags .roleChanged = true := by
  obtain ⟨eq, running', mgmt, role, link, record⟩ := leaveUp_handover_eq (new := new) up active running only
  have found := record.trans (records ▸ handoverIn_singleton body)
  obtain ⟨role', -, -, -, stream, consistency, held, expected, list, -, -, result, flag, -⟩ :=
    handoverComplete_facts .unconfirmed epoch r.seq (leaveUpCore new s)
  have emptied := changeRole_of_active (leaveUpCore new s) .standby role
  intro t
  have t_eq : t = handoverComplete .unconfirmed epoch r.seq (leaveUpCore new s) := by
    rw [← handoverOffUp_of_committed running' (by rw [mgmt, phase]) found, ← eq]
  rw [t_eq]
  refine ⟨role', consistency, held, expected, by rw [stream], by rw [list]; exact emptied.1, ?_, by rw [result],
    by rw [result], flag⟩
  rw [list, changeRole_nextSeq, leaveUpCore_nextSeq]

end

end

/-- Settles O37: a departure without a handover, and one in each phase of a handover. -/
theorem leavingUp : Obligations.LeavingUp := by
  refine ⟨fun new s up target idle pending => ?_, fun new s up active _ target running only => ?_⟩
  · intro waits t
    rw [leaveUp_of_plain new pending idle, leaveUpCore_eq up target]
    exact ⟨fun held => if_pos held, fun answered => if_neg (Bool.eq_false_iff.mp answered)⟩
  · intro t
    obtain ⟨drain, flag, link, -⟩ := leaveUp_handover_ends up active running only target
    refine ⟨drain, flag, fun phase unmarked => ?_, fun r epoch records body => ⟨fun phase => ?_, fun phase => ?_⟩⟩
    · obtain ⟨role, mode, nextSeq, seqs, state, reason, detail⟩ :=
        leaveUp_handover_drain (new := new) up active running only phase unmarked
      exact ⟨role, mode, nextSeq, seqs, state, reason, detail, link⟩
    · obtain ⟨role, mode, emptied, nextSeq, state, reason, detail⟩ :=
        leaveUp_handover_marked (new := new) up active running only records body phase
      exact ⟨role, mode, emptied, nextSeq, state, reason, detail, link⟩
    · obtain ⟨role, consistency, held, expected, epoch', emptied, nextSeq, state, detail, changed⟩ :=
        leaveUp_handover_committed (new := new) up active running only records body phase
      exact ⟨role, consistency, held, expected, epoch', emptied, nextSeq, state, detail, link, changed⟩

end Sys2Proof.Machine
end

section
/-! PROOFS. The pairing controller's timers, the handover's role, and the checks of a HELLO. -/

namespace Sys2Proof.Machine

open Sys2Proof.Safety

/-- From a state that checks HELLOs the HELLO timer runs on, and the loss timer follows the new state (R77, R82). -/
theorem enterLink_of_checking {s : State} {new : LinkState}
    (found : s.pair.link = .handshake ∨ s.pair.link = .conflict ∨ s.pair.link = .mismatch) (on : new ≠ .off) :
    enterLink new s = { s with
      pair := { s.pair with link := new, lossTimer := lossTimerAt new s }
      tx := { s.tx with helloDue := true } } := by
  have timer : helloTimerAt new s = s.pair.helloTimer := by
    cases new with
    | off => exact absurd rfl on
    | _ => rcases found with link | link | link <;> simp only [helloTimerAt, link]
  have due : (new != .off) = true := by simpa using on
  rw [enterLink, timer, due]

/-- Settles O36: the two expiries by the retry limit and by the link state. -/
theorem retryAndLossTimersExpire : Obligations.RetryAndLossTimersExpire := by
  refine ⟨fun d s timer up => ?_, fun d s timer => ⟨fun up => ?_, fun others => ?_⟩⟩
  · intro t
    have returned : unsend s.list.records = s.list.records.map fun r =>
        if r.state = .sent then { r with state := .pending } else r := by
      simp only [unsend, isSent, beq_iff_eq]
    have run : exec .retryTimerExpiry s = .next (finish
        (if s.list.retryCount + 1 < s.cfg.retryLimit.toNat then t else loseLink t)) := by
      change Host.Outcome.next _ = _
      rw [if_pos ⟨by rw [timer]; rfl, up⟩, retryExpired, returned]
    rw [run]
    exact ⟨fun below => by rw [if_pos below], fun reached => by rw [if_neg (Nat.not_lt.mpr reached)]; rfl⟩
  · change Host.Outcome.next _ = _
    rw [if_pos (by rw [timer]; rfl), up]
    rfl
  · change Host.Outcome.next _ = _
    rw [if_pos (by rw [timer]; rfl)]
    have entered := enterLink_of_checking (new := .down) others (by decide)
    rcases others with link | link | link <;> rw [link] <;> exact congrArg (Host.Outcome.next ∘ finish) entered

section
variable {s : State}

/-! ### The role of a pending handover (R93, R108) -/

theorem takeHandoverRole_of_pending {epoch seq : Half} (pending : s.apply.handoverPending = some (epoch, seq)) :
    takeHandoverRole s = { changeRole .active s with
      stream := { mode := .normal, isOpen := true, epoch := epoch
                  basisEpoch := (changeRole .active s).stream.basisEpoch, basisValid := false }
      list := { (changeRole .active s).list with nextSeq := seq + 1#16 } } := by
  simp [takeHandoverRole, pending]

theorem takeHandoverRole_of_none (pending : s.apply.handoverPending = none) : takeHandoverRole s = s := by
  simp [takeHandoverRole, pending]

/-- What the new active holds: a stream in the HANDOVER record's epoch, an empty list and a clear map. -/
theorem takeHandoverRole_facts {epoch seq : Half} (role : s.pair.role = .standby)
    (pending : s.apply.handoverPending = some (epoch, seq)) (empty : s.list.records = []) (clear : s.dirty = [])
    (stopped : s.walker.run ≠ .running) : let t := takeHandoverRole s
    t.pair.role = .active ∧ t.stream.mode = .normal ∧ t.stream.isOpen = true ∧ t.stream.epoch = epoch
      ∧ t.stream.basisValid = false ∧ t.list.nextSeq = seq + 1#16 ∧ t.list.records = [] ∧ t.dirty = []
      ∧ t.apply.heldEpoch = none ∧ t.apply.consistency = .inconsistent ∧ t.apply.handoverPending = none
      ∧ t.tx.ackRequest = .none ∧ flagSet t.events.flags .roleChanged = true := by
  intro t
  obtain ⟨-, -, dirty, -⟩ := changeRole_of_inactive s .active (by simp [role]) stopped
  have records := changeRole_records s .active empty
  simp only [t, takeHandoverRole_of_pending pending]
  refine ⟨changeRole_role s .active, trivial, trivial, trivial, trivial, trivial, records, dirty.trans clear, ?_, ?_, ?_, ?_,
    changeRole_roleChanged s .active⟩
  · rw [changeRole_apply]
    rfl
  · rw [changeRole_apply]
    rfl
  · rw [changeRole_apply]
    rfl
  · rw [changeRole_ackRequest, if_pos role]

theorem inactiveEmpty_parts (empty : inactiveEmpty s = true) (role : s.pair.role ≠ .active) :
    s.list.records = [] ∧ s.dirty = [] ∧ s.walker.run = .stopped := by
  simp [inactiveEmpty, role] at empty
  tauto

end

/-- Settles O40: the role is taken at the ACK's start, or once the link has left UP. -/
theorem handoverRoleTaken : Obligations.HandoverRoleTaken := by
  intro epoch seq s role pending empty became
  obtain ⟨records, dirty, stopped⟩ := inactiveEmpty_parts empty (by simp [role])
  have halted : s.walker.run ≠ .running := by simp [stopped]
  refine ⟨takeHandoverRole_facts role pending records dirty halted, fun up => ?_, fun new up target idle => ?_⟩
  · rw [takeHandoverRole_of_pending pending]
    exact ⟨by rw [changeRole_link, if_pos (.inl up)], by rw [changeRole_helloDue, if_neg (by simp [up])]⟩
  · have records' : (leaveUpCore new s).list.records = [] := by
      rw [leaveUpCore_list s new up, records]
      simp [clearWaiters]
    have halted' : (leaveUpCore new s).walker.run ≠ .running := by
      rw [leaveUpCore_walker, if_pos up, pauseWalker_of_not_running s halted]
      exact halted
    have taken := takeHandoverRole_facts (s := leaveUpCore new s) ((leaveUpCore_role s new).trans role)
      (by rw [leaveUpCore_apply, pending]) records' ((leaveUpCore_dirty s new).trans dirty) halted'
    have plain : handoverRunning (takeHandoverRole (leaveUpCore new s)) = false := by
      rw [takeHandoverRole_of_pending (by rw [leaveUpCore_apply, pending]), ← idle]
      refine handoverRunning_congr (congrArg MgmtPort.result ?_)
      rw [changeRole_mgmt, leaveUpCore_mgmt]
    rw [leaveUp, if_pos up, handoverOffUp, if_neg (by simp [plain])]
    exact taken

/-- Settles O38: the promote timer's two outcomes, the drain timer's, and the HANDOVER record. -/
theorem promoteAndDrainTimersExpire : Obligations.PromoteAndDrainTimersExpire := by
  refine ⟨fun d s timer => ?_, fun d s timer running phase unmarked => ?_, fun s running phase mode records reserved => ?_⟩
  · intro judged promotes
    have run : exec .promoteTimerExpiry s = .next (finish (promoteExpired s)) := by
      change Host.Outcome.next _ = _
      rw [if_pos (by rw [timer]; rfl)]
    rw [run]
    exact ⟨fun h => by rw [promoteExpired, if_pos h]; rfl, fun h => by rw [promoteExpired, if_neg h]⟩
  · have draining : inDrainPhase s = true := by simp [inDrainPhase, running, phase]
    change Host.Outcome.next _ = _
    rw [if_pos ⟨by rw [timer]; rfl, draining⟩, handoverCancel, dropHandover_of_none unmarked]
    rfl
  · have draining : inDrainPhase s = true := by simp [inDrainPhase, running, phase]
    have room : occupancy s.list = 0 := by simp [occupancy, records, reserved]
    change Host.Outcome.next _ = _
    rw [if_pos ⟨draining, mode, room⟩, appendHandover, addRecord, records]
    rfl

/-! ### The checks of a HELLO (R78, R79, R83) -/

/-- Settles O29: digest, then roles, then agreement. -/
theorem checkedHelloJudged : Obligations.CheckedHelloJudged := by
  intro digest role s found entered
  have mismatches : enterLink .mismatch s = entered .mismatch := enterLink_of_checking found (by decide)
  have conflicts : enterLink .conflict s = entered .conflict := enterLink_of_checking found (by decide)
  refine ⟨fun differs => ?_, fun agrees partner own => ?_, fun agrees roles => ?_⟩
  · have judged : judgePartner digest role s = .mismatch := by simp [judgePartner, differs]
    rw [checkHandshake, judged, ← mismatches]
    exact ⟨fun same => if_pos same, fun other => if_neg other⟩
  · have judged : judgePartner digest role s = .conflict := by simp [judgePartner, agrees, partner, own]
    rw [checkHandshake, judged, ← conflicts]
    exact ⟨fun same => if_pos same, fun other => if_neg other⟩
  · have judged : judgePartner digest role s = .up := by
      rcases roles with h | h <;> simp [judgePartner, agrees, h]
    rw [checkHandshake, judged]

end Sys2Proof.Machine
end

section
/-! PROOFS. A HELLO and a PULSE handed to the pairing controller. -/

namespace Sys2Proof.Machine

open Sys2Proof.Safety

section
variable {s : State}

/-! ### The partner view and the stale-epoch guard (R80, R83) -/

/-- A partner that is no STANDBY pauses the walker as its view is taken (R80, R124). -/
theorem setPartner_eq (v : PartnerView) (s : State) : setPartner v s =
    if v.role = .standby then { s with pair := { s.pair with partner := v } }
    else pauseWalker { s with pair := { s.pair with partner := v } } := rfl

/-- What a new partner view leaves alone. -/
theorem setPartner_keeps (v : PartnerView) (s : State) : (setPartner v s).pair = { s.pair with partner := v }
    ∧ (setPartner v s).list = s.list ∧ (setPartner v s).mgmt = s.mgmt ∧ (setPartner v s).stream = s.stream
    ∧ (setPartner v s).apply = s.apply ∧ (setPartner v s).tx = s.tx ∧ (setPartner v s).cfg = s.cfg
    ∧ (setPartner v s).mem = s.mem ∧ (setPartner v s).rx = s.rx ∧ (setPartner v s).host = s.host
    ∧ (setPartner v s).events = s.events ∧ (setPartner v s).dirty = s.dirty := by
  rw [setPartner_eq]
  split
  · simp
  · simp [pauseWalker_eq]

theorem staleGuard_of_spared (h : Hello) (spared : s.pair.role ≠ .standby ∨ s.apply.heldEpoch = none
    ∨ h.role ≠ .active ∨ h.streamOpen = true) : staleGuard h s = s := by
  refine if_neg ?_
  rintro ⟨role, held, partner, closed⟩
  rcases spared with other | none | other | isOpen
  · exact other role
  · simp [none] at held
  · exact other partner
  · simp [closed] at isOpen

/-- The guard drops the epoch and abandons a held record; only the standby state and the memory port change (R83, R112). -/
theorem staleGuard_of_stale (h : Hello) (role : s.pair.role = .standby) (held : s.apply.heldEpoch.isSome)
    (partner : h.role = .active) (closed : h.streamOpen = false) : staleGuard h s = { s with
      apply := { s.apply with held := none, heldEpoch := none, consistency := .inconsistent }
      mem := if s.apply.held.isSome then withdrawn s.mem else s.mem } := by
  refine (if_pos ⟨role, held, partner, closed⟩).trans ?_
  unfold abandonHeld
  by_cases record : s.apply.held.isSome
  · simp only [if_pos record]
    rfl
  · have none : s.apply.held = .none := Option.not_isSome_iff_eq_none.mp record
    simp only [if_neg record]
    rw [← none]

/-- What the guard leaves alone, whether it acts or not. -/
theorem staleGuard_keeps (h : Hello) (s : State) : (staleGuard h s).pair = s.pair ∧ (staleGuard h s).list = s.list
    ∧ (staleGuard h s).mgmt = s.mgmt ∧ (staleGuard h s).stream = s.stream ∧ (staleGuard h s).tx = s.tx
    ∧ (staleGuard h s).cfg = s.cfg ∧ (staleGuard h s).host = s.host
    ∧ (staleGuard h s).apply.handoverPending = s.apply.handoverPending
    ∧ (staleGuard h s).apply.expected = s.apply.expected ∧ (staleGuard h s).apply.lastFault = s.apply.lastFault := by
  by_cases stale : s.pair.role = .standby ∧ s.apply.heldEpoch.isSome ∧ h.role = .active ∧ h.streamOpen = false
  · obtain ⟨role, held, partner, closed⟩ := stale
    rw [staleGuard_of_stale h role held partner closed]
    exact ⟨rfl, rfl, rfl, rfl, rfl, rfl, rfl, rfl, rfl, rfl⟩
  · have same : staleGuard h s = s := if_neg stale
    rw [same]
    exact ⟨rfl, rfl, rfl, rfl, rfl, rfl, rfl, rfl, rfl, rfl⟩

/-! ### A HELLO in the pairing controller (R78) -/

theorem helloReceived_of_buffer {h : Hello} {rest : List Frame} (buffer : s.rx.buffer = .hello h :: rest) :
    exec .helloReceived s = .next (finish (takeHello h { s with rx := { s.rx with buffer := rest } })) := by
  change Host.Outcome.next _ = _
  rw [buffer]
  dsimp only
  rw [dropOldest_of_buffer buffer]

/-- A list that names a handover holds the record of it. -/
theorem handoverIn_eq_some {rs : List Rec} {epoch seq : Half} (h : handoverIn rs = some (epoch, seq)) :
    ∃ r ∈ rs, r.body = .handoverMark epoch ∧ r.seq = seq := by
  obtain ⟨r, hr, found⟩ := List.exists_of_findSome?_eq_some h
  refine ⟨r, hr, ?_⟩
  split at found
  next e body =>
    obtain ⟨rfl, rfl⟩ := Prod.mk.inj (Option.some.inj found)
    exact ⟨body, rfl⟩
  next => cases found

theorem completeByHello_of_other {h : Hello} (other : ∀ r ∈ s.list.records, ∀ e, r.body = .handoverMark e →
    h.role = .active → h.epoch = some e → ¬(handoverRunning s = true ∧ s.mgmt.result.detail = .committed)) :
    completeByHello h s = s := by
  unfold completeByHello
  split
  next epoch seq record =>
    obtain ⟨r, hr, body, -⟩ := handoverIn_eq_some record
    refine if_neg ?_
    rintro ⟨running, phase, role, reported⟩
    exact other r hr epoch body role reported ⟨running, phase⟩
  next => rfl

theorem judgeFall_of_not_up (old : PartnerView) (role : Role) (c : Consistency) (link : s.pair.link ≠ .up) :
    judgeFall old role c s = s := by
  refine if_neg ?_
  rintro ⟨-, -, -, -, takes⟩
  exact link (takesAcks_iff.mp takes).2.1

/-- A change of role leaves the link not UP (R74). -/
theorem changeRole_link_ne_up (new : Role) (s : State) : (changeRole new s).pair.link ≠ .up := by
  rw [changeRole_link]
  split
  · decide
  next other => exact fun up => other (.inl up)

theorem takeHandoverRole_link_ne_up (link : s.pair.link ≠ .up) : (takeHandoverRole s).pair.link ≠ .up := by
  cases pending : s.apply.handoverPending with
  | none => rwa [takeHandoverRole_of_none pending]
  | some x =>
    rw [takeHandoverRole_of_pending pending]
    exact changeRole_link_ne_up .active s

theorem handoverOffUp_link_ne_up (link : s.pair.link ≠ .up) : (handoverOffUp s).pair.link ≠ .up := by
  unfold handoverOffUp
  split
  · split
    next epoch seq _ _ =>
      rw [(handoverComplete_facts .unconfirmed epoch seq s).2.2.2.1]
      exact changeRole_link_ne_up .standby s
    next =>
      rw [(handoverCancel_facts .linkLost s).1]
      exact link
  · exact link

/-- A departure from UP does leave it (R81). -/
theorem leaveUp_link_ne_up {new : LinkState} (up : s.pair.link = .up) (target : new ≠ .up) :
    (leaveUp new s).pair.link ≠ .up := by
  rw [leaveUp, if_pos up]
  refine handoverOffUp_link_ne_up (takeHandoverRole_link_ne_up ?_)
  rw [leaveUpCore_pair s new up]
  exact target

end

/-- Settles O28: the partner view and the guard first, then the link state that the HELLO found. -/
theorem helloHandledByLinkState : Obligations.HelloHandledByLinkState := by
  intro h rest s buffer other view u shaken
  let d : State := { s with rx := { s.rx with buffer := rest } }
  obtain ⟨pairP, listP, mgmtP, streamP, applyP, txP, cfgP, -⟩ := setPartner_keeps view d
  obtain ⟨pairG, listG, mgmtG, streamG, txG, cfgG, -, pendingG, -, -⟩ := staleGuard_keeps h (setPartner view d)
  have pair : u.pair = { s.pair with partner := view } := pairG.trans pairP
  have run : exec .helloReceived s =
      .next (finish (judgeFall s.pair.partner h.role h.consistency (helloEffect s.pair.link h u))) := by
    rw [helloReceived_of_buffer buffer, takeHello, completeByHello_of_other (s := d) other]
    rfl
  have cfg : u.cfg = s.cfg := cfgG.trans cfgP
  have timer : lossTimerAt .handshake u = some (s.pair.lossTimer.getD s.cfg.lossTimeout.toNat) := by
    rw [lossTimerAt, pair, cfg]
  have shakes (enters : enterLink .handshake u = shaken) : judgeFall s.pair.partner h.role h.consistency
      (enterLink .handshake u) = shaken := by
    rw [enters, judgeFall_of_not_up _ _ _ (show LinkState.handshake ≠ .up by decide)]
  rw [run]
  refine ⟨fun off => ?_, fun down => ?_, fun up => ?_, fun unseen => ⟨fun link => ?_, fun checking => ?_⟩,
    fun seen checking => ?_⟩
  · rw [off, helloEffect, judgeFall_of_not_up _ _ _ (by simp [pair, off])]
  · have hello : helloTimerAt .handshake u = u.pair.helloTimer := by simp [helloTimerAt, pair, down]
    rw [down, helloEffect, shakes (by rw [enterLink, hello, timer]; rfl)]
  · intro t
    have upU : u.pair.link = .up := by rw [pair]; exact up
    rw [up, helloEffect, judgeFall_of_not_up _ _ _ (leaveUp_link_ne_up upU (by decide))]
    refine ⟨rfl, fun role mode running only => ?_⟩
    have same : u = setPartner view d := staleGuard_of_spared h (.inl (by rw [pairP]; simp [d, role]))
    have roleU : u.pair.role = .active := by rw [pair]; exact role
    have listU : u.list = s.list := listG.trans listP
    have mgmtU : u.mgmt = s.mgmt := mgmtG.trans mgmtP
    have runningU : handoverRunning u = true := (handoverRunning_congr (congrArg MgmtPort.result mgmtU)).trans running
    have onlyU : standbyOnly u = true := by
      simpa [standbyOnly, same, pairP, applyP, txP, d] using only
    obtain ⟨drain, flag, link, partner⟩ := leaveUp_handover_ends (new := .handshake) upU roleU runningU onlyU (by tauto)
    rw [← listU, ← mgmtU]
    exact ⟨link, by rw [partner, pair], drain, flag,
      leaveUp_handover_drain upU roleU runningU onlyU,
      fun r epoch records body => ⟨leaveUp_handover_marked upU roleU runningU onlyU records body,
        leaveUp_handover_committed upU roleU runningU onlyU records body⟩⟩
  · rw [link, helloEffect, unseen, if_neg Bool.false_ne_true, judgeFall_of_not_up _ _ _ (by simp [pair, link])]
  · have effect : helloEffect s.pair.link h u = enterLink .handshake u := by
      rcases checking with link | link <;> simp [helloEffect, link, unseen]
    have found : u.pair.link = .handshake ∨ u.pair.link = .conflict ∨ u.pair.link = .mismatch := by
      rw [pair]
      exact .inr checking
    rw [effect, shakes (by rw [enterLink_of_checking found (by decide), timer])]
  · have effect : helloEffect s.pair.link h u = checkHandshake h.digest h.role u := by
      rcases checking with link | link | link <;> simp [helloEffect, link, seen]
    rw [effect]

section
variable {s : State}

/-! ### A HELLO on a STANDBY (R78, R83) -/

theorem enterUp_of_not_active (role : s.pair.role ≠ .active) : (enterUp s).pair.role = s.pair.role
    ∧ (enterUp s).pair.partner = s.pair.partner ∧ (enterUp s).mem = s.mem
    ∧ (enterUp s).apply = { s.apply with gap := false } := by
  simp [enterUp, cancelPromote_eq, role]

/-- Entries into other link states leave role, partner view, memory port and standby state alone but for a gap. -/
theorem checkHandshake_of_not_active (digest : Half) (partner : Role) (role : s.pair.role ≠ .active) :
    (checkHandshake digest partner s).pair.role = s.pair.role
      ∧ (checkHandshake digest partner s).pair.partner = s.pair.partner
      ∧ (checkHandshake digest partner s).mem = s.mem
      ∧ ∃ gap, (checkHandshake digest partner s).apply = { s.apply with gap := gap } := by
  unfold checkHandshake
  split
  · split
    · exact ⟨rfl, rfl, rfl, s.apply.gap, rfl⟩
    · exact ⟨by simp, by simp, by simp, s.apply.gap, by simp⟩
  · split
    · exact ⟨rfl, rfl, rfl, s.apply.gap, rfl⟩
    · exact ⟨by simp, by simp, by simp, s.apply.gap, by simp⟩
  · obtain ⟨role', partner', mem, apply⟩ := enterUp_of_not_active role
    exact ⟨role', partner', mem, false, apply⟩

theorem helloEffect_of_not_active (found : LinkState) (h : Hello) (role : s.pair.role ≠ .active)
    (pending : s.apply.handoverPending = none) (idle : handoverRunning s = false) :
    (helloEffect found h s).pair.role = s.pair.role ∧ (helloEffect found h s).pair.partner = s.pair.partner
      ∧ (helloEffect found h s).mem = s.mem ∧ ∃ gap, (helloEffect found h s).apply = { s.apply with gap := gap } := by
  have checked := checkHandshake_of_not_active h.digest h.role role
  cases found with
  | up =>
    rw [helloEffect, leaveUp_of_plain .handshake pending idle]
    exact ⟨by simp, by simp, by simp, s.apply.gap, by simp⟩
  | off => exact ⟨rfl, rfl, rfl, s.apply.gap, rfl⟩
  | down => exact ⟨rfl, rfl, rfl, s.apply.gap, rfl⟩
  | _ =>
    by_cases seen : h.seen = true
    · simpa only [helloEffect, if_pos seen] using checked
    · rw [helloEffect, if_neg seen]
      exact ⟨rfl, rfl, rfl, s.apply.gap, rfl⟩

end

/-- Settles O31: the guard, the link's part, and the end of the step, none of which touch the standby state again. -/
theorem staleEpochDropped : Obligations.StaleEpochDropped := by
  refine ⟨fun h rest s epoch buffer role held partner closed idle pending => ?_, fun h s => staleGuard_of_spared h⟩
  let d : State := { s with rx := { s.rx with buffer := rest } }
  obtain ⟨pairP, -, mgmtP, -, applyP, -, -, memP, -⟩ := setPartner_keeps (viewOfHello h) d
  have stale := staleGuard_of_stale (s := setPartner (viewOfHello h) d) h (by rw [pairP]; exact role)
    (by rw [applyP]; simp [d, held]) partner closed
  have idleG : handoverRunning (staleGuard h (setPartner (viewOfHello h) d)) = false := by
    rw [handoverRunning_congr (s := d) (by rw [(staleGuard_keeps h _).2.2.1, mgmtP]), ← idle]
    rfl
  have completes : completeByHello h d = d := completeByHello_of_other fun _ _ _ _ _ _ ⟨running, _⟩ => by
    simp [d, handoverRunning] at running idle
    tauto
  have run : exec .helloReceived s = .next (finish (judgeFall s.pair.partner h.role h.consistency
      (helloEffect s.pair.link h (staleGuard h (setPartner (viewOfHello h) d))))) := by
    rw [helloReceived_of_buffer buffer, takeHello, completes]
  generalize staleGuard h (setPartner (viewOfHello h) d) = u at *
  have pairU : u.pair = { s.pair with partner := viewOfHello h } := by rw [stale]; exact pairP
  have applyU : u.apply = { s.apply with held := none, heldEpoch := none, consistency := .inconsistent } := by
    rw [stale]
    simp [applyP, d]
  have memU : s.apply.held.isSome → u.mem.waiting = none := fun record => by
    rw [stale]
    simp [applyP, d, record]
  have inactive : u.pair.role ≠ .active := by simp [pairU, role]
  obtain ⟨roleE, partnerE, memE, gap, applyE⟩ :=
    helloEffect_of_not_active s.pair.link h inactive (by rw [applyU]; exact pending) idleG
  generalize helloEffect s.pair.link h u = e at *
  have roleS : e.pair.role = .standby := by rw [roleE, pairU, role]
  have judged : judgeFall s.pair.partner h.role h.consistency e = e :=
    if_neg fun ⟨standby, _⟩ => by simp [partner] at standby
  obtain ⟨holdTimer, events, tx, helloTimer, finished, -⟩ :=
    finish_of_quiet (s := e) (.inr (by simp [roleS])) (by rw [applyE, applyU]; exact pending)
  rw [judged, finished] at run
  refine ⟨_, run, roleS, ?_, ?_, ?_, ?_, ?_, fun record => ?_, ?_⟩
  · rw [applyE, applyU]
  · rw [applyE, applyU]
  · rw [applyE, applyU]
  · rw [applyE, applyU]
  · rw [applyE, applyU]
  · rw [memE, memU record]
  · rw [partnerE, pairU, viewOfHello, partner, closed]

/-! ### A PULSE (R35, R80, R84) -/

theorem judgePartner_eq_up_iff {digest : Half} {role : Role} {s : State} : judgePartner digest role s = .up ↔
    digest = regionDigest s.cfg.regions ∧ ¬(role = .active ∧ s.pair.role = .active) := by
  unfold judgePartner
  by_cases agrees : digest = regionDigest s.cfg.regions
  · by_cases both : role = .active ∧ s.pair.role = .active
    · simp [agrees, both.1, both.2]
    · simp [agrees, both]
  · simp [agrees]

/-- Settles O32: the view, the link state's effect, and the fall judged once the effects are there. -/
theorem pulseUpdatesTheView : Obligations.PulseUpdatesTheView := by
  refine ⟨fun p rest s buffer => ?_, fun s => ⟨pauseWalker_of_not_running s, fun running => ⟨fun some => ?_, fun none => ?_⟩⟩⟩
  · intro old view viewed u acted fell
    have setU : setPartner (viewOfPulse p old) { s with rx := { s.rx with buffer := rest } } = u := setPartner_eq _ _
    obtain ⟨pairU, -, -, streamU, -, -, cfgU, -⟩ :=
      setPartner_keeps (viewOfPulse p old) { s with rx := { s.rx with buffer := rest } }
    rw [setU] at pairU streamU cfgU
    have joins : judgePartner u.pair.partner.digest p.role u = .up ↔
        old.digest = regionDigest s.cfg.regions ∧ ¬(p.role = .active ∧ s.pair.role = .active) := by
      rw [judgePartner_eq_up_iff, pairU, cfgU]
      rfl
    have effect : pulseEffect s.pair.link p u = acted := by
      simp only [acted]
      cases link : s.pair.link with
      | handshake =>
        simp only [pulseEffect, pulseInHandshake, joins, true_and, reduceCtorEq, false_and, if_false]
      | up =>
        simp only [pulseEffect, pulseAsAck, streamU, true_and, reduceCtorEq, false_and, if_false]
      | _ => simp only [pulseEffect, reduceCtorEq, false_and, if_false]
    have run : exec .pulseReceived s = .next (finish (judgeFall old p.role p.consistency acted)) := by
      change Host.Outcome.next _ = _
      rw [buffer]
      dsimp only
      rw [dropOldest_of_buffer buffer, takePulse, ← effect, ← setU]
    have falls : fell ↔ p.role = .standby ∧ p.consistency = .inconsistent ∧ old.role = .standby
        ∧ old.consistency ≠ .inconsistent ∧ takesAcks acted = true := by
      rw [takesAcks_iff]
    rw [run]
    exact ⟨fun h => by rw [judgeFall, if_pos (falls.mp h)], fun h => by rw [judgeFall, if_neg (mt falls.mpr h)]⟩
  · have fills : fillsSync s.list = true := List.any_eq_true.mpr some
    rw [pauseWalker, if_pos running, if_pos fills]
  · have open_ : fillsSync s.list = false := List.any_eq_false.mpr fun r hr => by simp [none r hr]
    rw [pauseWalker, if_pos running, if_neg (by simp [open_])]

end Sys2Proof.Machine
end

section
/-! PROOFS. The partner's answers: ACK, NAK, and the decision at UP (R33 to R36, R85). -/

namespace Sys2Proof.Machine

open Sys2Proof.Safety

/-! ### The order of sequences (R26) -/

theorem ahead_iff {a b : Half} : ahead a b = true ↔ 1 ≤ (a - b).toNat ∧ (a - b).toNat ≤ 32767 := by
  simp [ahead]

theorem ahead_asymm {a b : Half} (h : ahead a b = true) : ahead b a = false := by
  rw [ahead_iff, BitVec.toNat_sub] at h
  refine Bool.eq_false_of_not_eq_true fun h' => ?_
  rw [ahead_iff, BitVec.toNat_sub] at h'
  omega

theorem ne_of_ahead {a b : Half} (h : ahead a b = true) : a ≠ b := by
  rintro rfl
  simp [ahead_iff] at h

theorem atOrBehind_iff {a b : Half} : atOrBehind a b = true ↔ a = b ∨ ahead b a = true := by
  simp [atOrBehind, behind]

/-! ### The records an answer splits (R33) -/

theorem takeWhile_of_split {n : Half} {removed kept : List Rec} (split : splitAt n removed kept) :
    (removed ++ kept).takeWhile (fun r => behind r.seq n) = removed
      ∧ (removed ++ kept).dropWhile (fun r => behind r.seq n) = kept := by
  obtain ⟨gone, stays⟩ := split
  have gone' : ∀ r ∈ removed, behind r.seq n = true := gone
  have first : kept.takeWhile (fun r => behind r.seq n) = [] ∧ kept.dropWhile (fun r => behind r.seq n) = kept := by
    cases kept with
    | nil => exact ⟨rfl, rfl⟩
    | cons r rest =>
      have not : behind r.seq n = false := stays r rfl
      simp [List.takeWhile, List.dropWhile, not]
  rw [List.takeWhile_append_of_pos gone', List.dropWhile_append_of_pos gone', first.1, first.2, List.append_nil]
  exact ⟨rfl, rfl⟩

/-- The furthest right answer is unique (R33, R34). -/
theorem ackBound_of_isBound {l : ReplayList} {bound : Half} (h : isBound l bound) : ackBound l = bound := by
  unfold ackBound
  rcases h with ⟨before, r, after, records, sent, unsent, rfl⟩ | ⟨unsent, rfl⟩
  · have newest : l.records.reverse.find? (fun x => x.transmitted) = some r := by
      have skip : after.reverse.find? (fun x => x.transmitted) = none :=
        List.find?_eq_none.mpr fun x hx => by simp [unsent x (List.mem_reverse.mp hx)]
      rw [records, List.reverse_append, List.reverse_cons, List.append_assoc, List.find?_append, skip]
      simp [sent]
    rw [newest]
  · have none : l.records.reverse.find? (fun x => x.transmitted) = .none :=
      List.find?_eq_none.mpr fun x hx => by simp [unsent x (List.mem_reverse.mp hx)]
    rw [none]

/-- An answer that removes a record is ahead of the oldest. -/
theorem ahead_oldest_of_split {l : ReplayList} {n : Half} {removed kept : List Rec}
    (records : l.records = removed ++ kept) (split : splitAt n removed kept) (some : removed ≠ []) :
    ahead n (oldestSeq l) = true := by
  obtain ⟨r, rest, rfl⟩ := List.exists_cons_of_ne_nil some
  have oldest : oldestSeq l = r.seq := by rw [oldestSeq, records]; rfl
  rw [oldest]
  exact split.1 r (by simp)

section
variable {s : State}

/-! ### Removal as ACK progress (R33, R37) -/

theorem removeBehind_of_split {n : Half} {removed kept : List Rec} (records : s.list.records = removed ++ kept)
    (split : splitAt n removed kept) (some : removed ≠ []) (up : s.pair.link = .up) :
    removeBehind n s = reportHandover removed (reportEnd removed (progressed removed kept s)) := by
  obtain ⟨take, drop⟩ := takeWhile_of_split split
  unfold removeBehind
  rw [records, take, drop]
  have list : trimmedList s removed kept = { s.list with
      records := kept, retryCount := 0
      retryTimer := if kept.any isSent then .some s.cfg.retryTimeout.toNat else none
      coalesceTimer := if kept.any isOpenWrite then s.list.coalesceTimer else none } := by
    simp [trimmedList, some, up]
  have held : isWithheld { s with list := trimmedList s removed kept } = isWithheld s := rfl
  unfold progressed
  dsimp only
  rw [list]
  by_cases answers : (removed.any (fun r => r.waiter) && isWithheld s) = true
  · simp only [if_pos answers]
    rfl
  · simp only [if_neg answers]

/-- An answer that removes nothing changes nothing (R36). -/
theorem removeBehind_of_none {n : Half} {kept : List Rec} (records : s.list.records = kept)
    (split : splitAt n [] kept) : removeBehind n s = s := by
  obtain ⟨take, drop⟩ := takeWhile_of_split split
  rw [List.nil_append] at take drop
  unfold removeBehind
  rw [records, take, drop]
  simp [trimmedList, reportHandover, reportEnd, handoverIn]

theorem reportEnd_of_none {removed : List Rec} (none : ∀ r ∈ removed, r.body ≠ .endMark) : reportEnd removed s = s := by
  refine if_neg ?_
  simp only [Bool.and_eq_true, List.any_eq_true, beq_iff_eq, not_and, not_exists]
  exact fun _ r hr => none r hr

theorem reportEnd_of_end {removed : List Rec} (mode : s.stream.mode = .resync) (some : ∃ r ∈ removed, r.body = .endMark) :
    reportEnd removed s = resyncComplete s := by
  obtain ⟨r, hr, body⟩ := some
  refine if_pos ?_
  simp only [mode, decide_true, Bool.true_and, List.any_eq_true, beq_iff_eq]
  exact ⟨r, hr, body⟩

theorem reportHandover_of_none {removed : List Rec} (none : ∀ r ∈ removed, ∀ e, r.body ≠ .handoverMark e) :
    reportHandover removed s = s := by
  rw [reportHandover, handoverIn_of_none none]

/-! ### The answers (R33, R34, R36) -/

/-- The end of the resync in progress, written out (R131). -/
theorem resyncComplete_eq : resyncComplete s = raise .resyncEnd { s with
    stream := { s.stream with mode := .normal }
    list := closeWrite s.list
    walker := { s.walker with run := .stopped, pauseDue := false, taken := false, outcome := .complete }
    mem := (withdrawInternal s).mem } := rfl

theorem returnSent_eq : returnSent s = { s with list := { s.list with
    records := s.list.records.map (fun r => if r.state = .sent then { r with state := .pending } else r)
    retryTimer := none } } := by
  simp only [returnSent, unsend, isSent, beq_iff_eq]

/-- What removal makes of an ACTIVE unit's list, markers reported or not. -/
theorem removeBehind_of_plain {n : Half} {removed kept : List Rec} (records : s.list.records = removed ++ kept)
    (split : splitAt n removed kept) (some : removed ≠ []) (up : s.pair.link = .up)
    (plain : ∀ r ∈ removed, ∀ e, r.body ≠ .endMark ∧ r.body ≠ .handoverMark e) :
    removeBehind n s = progressed removed kept s := by
  rw [removeBehind_of_split records split some up, reportEnd_of_none fun r hr => (plain r hr 0#16).1,
    reportHandover_of_none fun r hr e => (plain r hr e).2]

theorem removeBehind_of_end {n : Half} {removed kept : List Rec} (records : s.list.records = removed ++ kept)
    (split : splitAt n removed kept) (up : s.pair.link = .up) (mode : s.stream.mode = .resync)
    (ends : ∃ r ∈ removed, r.body = .endMark) (plain : ∀ r ∈ removed, ∀ e, r.body ≠ .handoverMark e) :
    removeBehind n s = resyncComplete (progressed removed kept s) := by
  have some : removed ≠ [] := by
    obtain ⟨r, hr, -⟩ := ends
    exact List.ne_nil_of_mem hr
  rw [removeBehind_of_split records split some up,
    reportEnd_of_end (s := progressed removed kept s) mode ends, reportHandover_of_none plain]

theorem takeAck_of_not_taking {n : Half} (h : ¬(s.pair.role = .active ∧ s.pair.link = .up
    ∧ (s.stream.mode = .normal ∨ s.stream.mode = .resync ∨ s.stream.mode = .draining))) : takeAck n s = s :=
  if_neg (mt takesAcks_iff.mp h)

theorem takeNak_of_not_taking {n : Half} (h : ¬(s.pair.role = .active ∧ s.pair.link = .up
    ∧ (s.stream.mode = .normal ∨ s.stream.mode = .resync ∨ s.stream.mode = .draining))) : takeNak n s = s :=
  if_neg (mt takesAcks_iff.mp h)

end

section
variable {s : State} {n bound : Half} (role : s.pair.role = .active) (up : s.pair.link = .up)
  (mode : s.stream.mode = .normal ∨ s.stream.mode = .resync ∨ s.stream.mode = .draining)
include role up mode

theorem takeAck_of_stale (stale : n = oldestSeq s.list ∨ ahead (oldestSeq s.list) n = true) : takeAck n s = s := by
  rw [takeAck, if_pos (takesAcks_iff.mpr ⟨role, up, mode⟩), if_pos (atOrBehind_iff.mpr stale)]

theorem takeAck_of_beyond (isB : isBound s.list bound) (h₁ : n ≠ oldestSeq s.list)
    (h₂ : ahead (oldestSeq s.list) n = false) (h₃ : n ≠ bound) (h₄ : ahead bound n = false) :
    takeAck n s = leaveUp .handshake s := by
  have notStale : ¬atOrBehind n (oldestSeq s.list) = true := by simp [atOrBehind_iff, h₁, h₂]
  have notWithin : ¬atOrBehind n (ackBound s.list) = true := by simp [ackBound_of_isBound isB, atOrBehind_iff, h₃, h₄]
  rw [takeAck, if_pos (takesAcks_iff.mpr ⟨role, up, mode⟩), if_neg notStale, if_neg notWithin, protocolFault]

theorem takeAck_of_within (isB : isBound s.list bound) (h : ahead n (oldestSeq s.list) = true)
    (within : n = bound ∨ ahead bound n = true) : takeAck n s = removeBehind n s := by
  have notStale : ¬atOrBehind n (oldestSeq s.list) = true := by
    simp [atOrBehind_iff, ne_of_ahead h, ahead_asymm h]
  have isWithin : atOrBehind n (ackBound s.list) = true := by
    rw [ackBound_of_isBound isB]
    exact atOrBehind_iff.mpr within
  rw [takeAck, if_pos (takesAcks_iff.mpr ⟨role, up, mode⟩), if_neg notStale, if_pos isWithin]

theorem takeNak_of_stale (stale : ahead (oldestSeq s.list) n = true
    ∨ (n = oldestSeq s.list ∧ ∀ r ∈ s.list.records, r.transmitted = false)) : takeNak n s = s := by
  rw [takeNak, if_pos (takesAcks_iff.mpr ⟨role, up, mode⟩)]
  split
  · rfl
  · rename_i notBehind
    rcases stale with h | ⟨rfl, unsent⟩
    · exact absurd h notBehind
    · refine if_pos ?_
      simpa using unsent

theorem takeNak_of_beyond (isB : isBound s.list bound) (h₁ : n ≠ oldestSeq s.list)
    (h₂ : ahead (oldestSeq s.list) n = false) (h₃ : n ≠ bound) (h₄ : ahead bound n = false) :
    takeNak n s = leaveUp .handshake s := by
  have notBehind : ¬behind n (oldestSeq s.list) = true := by simp [behind, h₂]
  have notWithin : ¬atOrBehind n (ackBound s.list) = true := by simp [ackBound_of_isBound isB, atOrBehind_iff, h₃, h₄]
  have notOldest : ¬(n == oldestSeq s.list && !s.list.records.any (fun r => r.transmitted)) = true := by simp [h₁]
  rw [takeNak, if_pos (takesAcks_iff.mpr ⟨role, up, mode⟩), if_neg notBehind, if_neg notOldest, if_neg notWithin,
    protocolFault]

theorem takeNak_of_within (isB : isBound s.list bound) (h : ahead (oldestSeq s.list) n = false)
    (within : n = bound ∨ ahead bound n = true)
    (sent : n ≠ oldestSeq s.list ∨ ∃ r ∈ s.list.records, r.transmitted = true) :
    takeNak n s = returnSent (removeBehind n s) := by
  have notBehind : ¬behind n (oldestSeq s.list) = true := by simp [behind, h]
  have isWithin : atOrBehind n (ackBound s.list) = true := by
    rw [ackBound_of_isBound isB]
    exact atOrBehind_iff.mpr within
  have taken : ¬(n == oldestSeq s.list && !s.list.records.any (fun r => r.transmitted)) = true := by
    rcases sent with ne | ⟨r, hr, sent⟩
    · simp [ne]
    · simp only [Bool.and_eq_true, Bool.not_eq_true', not_and, Bool.not_eq_false, List.any_eq_true]
      exact fun _ => ⟨r, hr, sent⟩
  rw [takeNak, if_pos (takesAcks_iff.mpr ⟨role, up, mode⟩), if_neg notBehind, if_neg taken, if_pos isWithin]

end

section
variable {s : State} {n : Half} {rest : List Frame}

theorem ackReceived_of_buffer (hb : s.rx.buffer = .ack n :: rest) (role : s.pair.role = .active) :
    exec .ackReceived s = .next (finish (takeAck n { s with rx := { s.rx with buffer := rest } })) := by
  change execAckReceived s = _
  rw [execAckReceived, hb]
  simp only [if_pos role, dropOldest_of_buffer hb]

theorem nakReceived_of_buffer (hb : s.rx.buffer = .nak n :: rest) (role : s.pair.role = .active) :
    exec .nakReceived s = .next (finish (takeNak n { s with rx := { s.rx with buffer := rest } })) := by
  change execNakReceived s = _
  rw [execNakReceived, hb]
  simp only [if_pos role, dropOldest_of_buffer hb]

end

/-- Settles O33: the answer by its place between the oldest sequence and the bound. -/
theorem ackRemovesBehind : Obligations.AckRemovesBehind := by
  refine ⟨fun n bound rest s hb role isB => ?_, fun n bound rest s removed kept hb role up mode isB within records split
    ends plain => ?_⟩
  · intro u streams
    rw [ackReceived_of_buffer hb role]
    refine ⟨fun not => ?_, fun ⟨up, mode⟩ => ⟨fun stale => ?_, fun removed kept records some split within plain => ?_,
      fun h₁ h₂ h₃ h₄ => ?_⟩⟩
    · rw [takeAck_of_not_taking (s := u) fun h => not h.2]
    · rw [takeAck_of_stale (s := u) role up mode stale]
    · rw [takeAck_of_within (s := u) role up mode isB (ahead_oldest_of_split records split some) within,
        removeBehind_of_plain (s := u) records split some up plain]
    · rw [takeAck_of_beyond (s := u) role up mode isB h₁ h₂ h₃ h₄]
  · have some : removed ≠ [] := by
      obtain ⟨r, hr, -⟩ := ends
      exact List.ne_nil_of_mem hr
    let u : State := { s with rx := { s.rx with buffer := rest } }
    rw [ackReceived_of_buffer hb role,
      takeAck_of_within (s := u) role up (.inr (.inl mode)) isB (ahead_oldest_of_split records split some) within,
      removeBehind_of_end (s := u) records split up mode ends plain, resyncComplete_eq]

/-- Settles O34: as an ACK, and what is left SENT returns to PENDING. -/
theorem nakReturnsSent : Obligations.NakReturnsSent := by
  refine ⟨fun n bound rest s hb role isB => ?_, fun n bound rest s removed kept hb role up mode isB within records split
    ends plain => ?_⟩
  · intro u streams
    rw [nakReceived_of_buffer hb role]
    refine ⟨fun not => ?_, fun ⟨up, mode⟩ => ⟨fun stale => ?_, fun removed kept records split fresh within sent plain =>
      ?_, fun h₁ h₂ h₃ h₄ => ?_⟩⟩
    · rw [takeNak_of_not_taking (s := u) fun h => not h.2]
    · rw [takeNak_of_stale (s := u) role up mode stale]
    · rw [takeNak_of_within (s := u) role up mode isB fresh within (.inr sent)]
      by_cases empty : removed = []
      · subst empty
        simp only [if_true]
        rw [removeBehind_of_none (s := u) records split, returnSent_eq]
      · simp only [if_neg empty]
        rw [removeBehind_of_plain (s := u) records split empty up plain, returnSent_eq]
    · rw [takeNak_of_beyond (s := u) role up mode isB h₁ h₂ h₃ h₄]
  · have some : removed ≠ [] := by
      obtain ⟨r, hr, -⟩ := ends
      exact List.ne_nil_of_mem hr
    have fresh := ahead_oldest_of_split records split some
    let u : State := { s with rx := { s.rx with buffer := rest } }
    rw [nakReceived_of_buffer hb role,
      takeNak_of_within (s := u) role up (.inr (.inl mode)) isB (ahead_asymm fresh) within (.inl (ne_of_ahead fresh)),
      removeBehind_of_end (s := u) records split up mode ends plain, resyncComplete_eq, returnSent_eq]

/-! ### The walker at a resume (R85, R124) -/

theorem nextMirrored_of_first {table : Vector RegionEntry 16} {b k j : Nat} (bound : j < 64) (from_ : k ≤ j)
    (before : ∀ i < j, k ≤ i → mirroredChunk table b i = false) (here : mirroredChunk table b j = true) :
    nextMirrored table b k = j := by
  have found : (List.range 64).find? (fun i => k ≤ i && mirroredChunk table b i) = some j := by
    rw [List.find?_range_eq_some]
    refine ⟨by simp [from_, here], List.mem_range.mpr bound, fun i hi => ?_⟩
    by_cases h : k ≤ i
    · simp [before i hi h]
    · simp [h]
  rw [nextMirrored, show Config.chunksPerBlock = 64 from rfl, found]
  rfl

theorem nextMirrored_of_none {table : Vector RegionEntry 16} {b k : Nat}
    (none : ∀ j < 64, k ≤ j → mirroredChunk table b j = false) : nextMirrored table b k = 64 := by
  have absent : (List.range 64).find? (fun i => k ≤ i && mirroredChunk table b i) = .none := by
    rw [List.find?_range_eq_none]
    intro i hi
    by_cases h : k ≤ i
    · simp [none i hi h]
    · simp [h]
  rw [nextMirrored, show Config.chunksPerBlock = 64 from rfl, absent]
  rfl

section
variable {s : State}

theorem resumeWalker_of_not_paused (h : s.walker.run ≠ .paused) :
    (resumeWalker s).walker = { s.walker with pauseDue := false } := by
  rw [resumeWalker, if_neg h]

theorem resumeWalker_of_paused (h : s.walker.run = .paused) (taken : s.walker.taken = false) :
    (resumeWalker s).walker = { s.walker with run := .running, pauseDue := false } := by
  simp [resumeWalker, h, walkerGoOn, taken]

theorem resumeWalker_of_chunk {j : Nat} (h : s.walker.run = .paused) (taken : s.walker.taken = true) (bound : j < 64)
    (next : nextMirrored s.cfg.regions s.walker.cursor s.walker.nextChunk = j) :
    (resumeWalker s).walker = { s.walker with run := .running, pauseDue := false, nextChunk := j } := by
  simp [resumeWalker, h, walkerGoOn, taken, next, bound, Config.chunksPerBlock]

theorem resumeWalker_of_end (h : s.walker.run = .paused) (taken : s.walker.taken = true)
    (next : nextMirrored s.cfg.regions s.walker.cursor s.walker.nextChunk = 64) :
    (resumeWalker s).walker
      = finishBlock { s.walker with run := .running, pauseDue := false } := by
  simp [resumeWalker, h, walkerGoOn, taken, next, Config.chunksPerBlock]

/-- A removal that reports no marker leaves the walker. -/
theorem removeBehind_walker {n : Half}
    (plain : ∀ r ∈ s.list.records, (r.body = .endMark ∨ ∃ e, r.body = .handoverMark e) → ahead n r.seq = false) :
    (removeBehind n s).walker = s.walker ∧ (removeBehind n s).cfg = s.cfg := by
  have none : ∀ r ∈ s.list.records.takeWhile (fun r => behind r.seq n), ∀ e, r.body ≠ .endMark ∧ r.body ≠ .handoverMark e := by
    intro r hr e
    have gone : ahead n r.seq = true := List.mem_takeWhile_imp (p := fun r : Rec => behind r.seq n) hr
    have old := (List.takeWhile_sublist _).mem hr
    refine ⟨fun h => ?_, fun h => ?_⟩
    · simp [plain r old (.inl h)] at gone
    · simp [plain r old (.inr ⟨e, h⟩)] at gone
  rw [removeBehind, reportEnd_of_none fun r hr => (none r hr 0#16).1, reportHandover_of_none fun r hr e => (none r hr e).2]
  split
  · exact ⟨rfl, rfl⟩
  · exact ⟨rfl, rfl⟩

theorem canResume_iff : canResume s = true ↔ s.stream.isOpen = true ∧ (s.stream.mode = .normal ∨ s.stream.mode = .resync)
    ∧ s.pair.partner.epoch = some s.stream.epoch ∧ (s.pair.partner.seq = oldestSeq s.list
      ∨ s.pair.partner.seq = s.list.nextSeq
      ∨ (ahead s.pair.partner.seq (oldestSeq s.list) = true ∧ ahead s.list.nextSeq s.pair.partner.seq = true)) := by
  simp [canResume, inSpan, behind, and_assoc, or_assoc]

end

/-- Settles O30: the branches of the resume decision, and the walker's by its run state. -/
theorem enteringUpDecides : Obligations.EnteringUpDecides := by
  intro s up n resumes
  have shape : enterUp s = raise .linkUp
      (if up.pair.role == .active && up.pair.partner.role == .standby then resumeDecision up else up) := by
    simp only [enterUp, cancelPromote_eq]
    rfl
  have decides (role : s.pair.role = .active) (partner : s.pair.partner.role = .standby) :
      enterUp s = raise .linkUp (resumeDecision up) := by
    rw [shape, if_pos]
    simp [up, role, partner]
  have resumed (role : s.pair.role = .active) (partner : s.pair.partner.role = .standby) (h : resumes) :
      enterUp s = raise .linkUp (resumeWalker (returnSent (removeBehind n up))) := by
    rw [decides role partner, resumeDecision, if_pos (canResume_iff (s := up).mpr h)]
  refine ⟨fun other => ?_, fun role partner => ⟨resumed role partner, fun not => ?_, fun h plain => ?_⟩⟩
  · rw [shape, if_neg]
    simpa [up, imp_iff_not_or] using other
  · rw [decides role partner, resumeDecision, if_neg (mt (canResume_iff (s := up)).mp not)]
  · intro w goesOn
    let t := returnSent (removeBehind n up)
    obtain ⟨walker, cfg⟩ : t.walker = w ∧ t.cfg = s.cfg := removeBehind_walker (s := up) plain
    have final : (enterUp s).walker = (resumeWalker t).walker := by
      rw [resumed role partner h]
      exact raise_walker (by decide) _
    refine ⟨fun run => ?_, fun run => ⟨fun taken => ?_, fun taken => ⟨fun j bound from_ before here => ?_, fun none => ?_⟩⟩⟩
    · exact final.trans ((resumeWalker_of_not_paused (walker ▸ run)).trans (by rw [walker]))
    · exact final.trans ((resumeWalker_of_paused (walker ▸ run) (walker ▸ taken)).trans (by rw [walker]))
    · have next : nextMirrored t.cfg.regions t.walker.cursor t.walker.nextChunk = j := by
        rw [cfg, walker]
        exact nextMirrored_of_first bound from_ before here
      exact final.trans ((resumeWalker_of_chunk (walker ▸ run) (walker ▸ taken) bound next).trans (by rw [walker]))
    · have next : nextMirrored t.cfg.regions t.walker.cursor t.walker.nextChunk = 64 := by
        rw [cfg, walker]
        exact nextMirrored_of_none none
      exact final.trans ((resumeWalker_of_end (walker ▸ run) (walker ▸ taken) next).trans (by rw [walker]; rfl))

end Sys2Proof.Machine
end

section
/-! PROOFS. The end of a handover on the old active, confirmed by an answer or a HELLO (R92). -/

namespace Sys2Proof.Machine

open Sys2Proof.Safety

/-- What the completed handover leaves of the unit `s`, but for the epoch it holds and its consistency (R92). -/
structure HandedOver (epoch seq : Half) (s t : State) : Prop where
  role : t.pair.role = .standby
  link : t.pair.link = .handshake
  drain : t.pair.drainTimer = none
  stream : t.stream.mode = .closed ∧ t.stream.isOpen = false ∧ t.stream.basisValid = false ∧ t.stream.epoch = epoch
  expected : t.apply.expected = seq + 1#16
  pending : t.apply.handoverPending = none
  list : t.list.records = [] ∧ t.list.nextSeq = s.list.nextSeq ∧ t.list.reserved = false
  dirty : t.dirty = []
  result : t.mgmt.result = { s.mgmt.result with state := .done, reason := .none, detail := .confirmed }
  roleChanged : flagSet t.events.flags .roleChanged = true
  commandEnd : flagSet t.events.flags .commandEnd = true
  cfg : t.cfg = s.cfg
  held : ∀ k q c b, s.host.port = .held k q c b → t.host.port = .held k q c b

section
variable {s t : State} {epoch seq : Half}

/-- A held write stays held as its unit leaves ACTIVE; the end of the step judges it anew (R74, R144). -/
theorem changeRole_host_of_held {k : HoldKind} {q : HostReq} {c : HostClass} {b : Bool} (new : Role)
    (role : s.pair.role = .active) (port : s.host.port = .held k q c b) : (changeRole new s).host = s.host := by
  have answered : isWithheld s = false := by simp [isWithheld, port]
  have left : (leaveActive s).host = s.host :=
    discard_host_of_plain answered fun q' c' port' => by cases port.symm.trans port'
  rw [changeRole_host_of_active s new role ((isWithheld_congr left).trans answered), left]

/-- The completion of a handover on an ACTIVE unit whose link is UP (R92). -/
theorem handoverComplete_handsOver (role : s.pair.role = .active) (up : s.pair.link = .up) :
    HandedOver epoch seq s (handoverComplete .confirmed epoch seq s) := by
  obtain ⟨role', drain, -, link, stream, -, -, expected, list, dirty, host, result, roleChanged, commandEnd⟩ :=
    handoverComplete_facts .confirmed epoch seq s
  obtain ⟨records, reserved, -, map, -, -⟩ := changeRole_of_active s .standby role
  exact {
    role := role'
    link := by rw [link, changeRole_link, if_pos (.inl up)]
    drain := drain
    stream := by rw [stream]; exact ⟨rfl, rfl, rfl, rfl⟩
    expected := expected
    pending := by simp [handoverComplete, endCommand, ApplyEngine.reset]
    list := by rw [list]; exact ⟨records, changeRole_nextSeq s .standby, reserved⟩
    dirty := dirty.trans map
    result := result
    roleChanged := roleChanged
    commandEnd := commandEnd
    cfg := by simp [handoverComplete, endCommand]
    held := fun k q c b port => by rw [host, changeRole_host_of_held .standby role port, port] }

/-- The end of the step: the held write meets the guard of a STANDBY, and all else stays (R64, R145). -/
theorem HandedOver.finish_keeps (h : HandedOver epoch seq s t) : (finish t).pair.role = .standby
    ∧ (finish t).pair.link = .handshake ∧ (finish t).pair.drainTimer = none ∧ (finish t).stream = t.stream
    ∧ (finish t).list.records = [] ∧ (finish t).list.nextSeq = s.list.nextSeq ∧ (finish t).list.reserved = false
    ∧ (finish t).dirty = [] ∧ (finish t).mgmt = t.mgmt ∧ (finish t).apply = t.apply
    ∧ (finish t).pair.partner = t.pair.partner ∧ (finish t).host = (settleHold t).host
    ∧ flagSet (finish t).events.flags .roleChanged = true ∧ flagSet (finish t).events.flags .commandEnd = true := by
  have notActive : t.pair.role ≠ .active := by rw [h.role]; decide
  obtain ⟨holdTimer, events, tx, helloTimer, e, flags⟩ := finish_of_quiet (s := t) (.inr notActive) h.pending
  rw [e]
  exact ⟨h.role, h.link, h.drain, rfl, h.list.1, h.list.2.1, h.list.2.2, h.dirty, rfl, rfl, rfl, rfl,
    flags _ h.roleChanged, flags _ h.commandEnd⟩

/-- A write that the drain held is judged as a STANDBY's (R141, R142, R145). -/
theorem HandedOver.settles (h : HandedOver epoch seq s t) {k : HoldKind} {q : HostReq} {c : HostClass} {b : Bool}
    (port : s.host.port = .held k q c b) (write : q.kind = .write) :
    (guardAt s.cfg.regions (4 * q.addr.toNat) = .guarded → (settleHold t).host.port = .idle
      ∧ (settleHold t).host.response = some .fault ∧ (settleHold t).host.lastGuardAddr = q.addr)
    ∧ (guardAt s.cfg.regions (4 * q.addr.toNat) = .opened → ∃ c', (settleHold t).host.port = .forwarded q c' false) := by
  have notActive : ¬t.pair.role = .active := by rw [h.role]; decide
  rw [settleHold_of_over (h.held k q c b port) (fun _ active => notActive active.1) fun _ active => notActive active.1]
  refine ⟨fun guard => ?_, fun guard => ?_⟩
  · rw [reclassify_of_guarded b write h.role (by rw [h.cfg]; exact guard), refuse_eq, raise_plain (by decide) (by decide)]
    exact ⟨rfl, rfl, rfl⟩
  · rw [reclassify_of_plain b (.inr (.inr (.inl ⟨h.role, by rw [h.cfg]; exact guard⟩)))]
    exact ⟨_, rfl⟩

/-- The return of SENT records finds none (R36). -/
theorem HandedOver.returnSent (h : HandedOver epoch seq s t) : HandedOver epoch seq s (returnSent t) :=
  { h with list := ⟨by rw [returnSent_eq]; simp [h.list.1], h.list.2⟩ }

/-- What the handover record's unit is once the record has been taken off, is the same unit to the handover. -/
theorem HandedOver.of_progressed {removed kept : List Rec} {rest : List Frame}
    (h : HandedOver epoch seq (progressed removed kept { s with rx := { s.rx with buffer := rest } }) t) :
    HandedOver epoch seq s t :=
  { h with
    held := fun k q c b port => by
      refine h.held k q c b ?_
      have answered : isWithheld { s with rx := { s.rx with buffer := rest } } = false := by simp [isWithheld, port]
      simpa [progressed, answered] using port }

theorem staleGuard_events_dirty (h : Hello) (s : State) :
    (staleGuard h s).events = s.events ∧ (staleGuard h s).dirty = s.dirty := by
  unfold staleGuard abandonHeld
  split
  · split
    · exact ⟨rfl, rfl⟩
    · exact ⟨rfl, rfl⟩
  · exact ⟨rfl, rfl⟩

/-- A HELLO's partner view and its guard leave a completed handover but for the standby's epoch (R80, R83). -/
theorem HandedOver.viewed (hello : Hello) (v : PartnerView) (h : HandedOver epoch seq s t) :
    HandedOver epoch seq s (staleGuard hello (setPartner v t)) := by
  obtain ⟨pairP, listP, mgmtP, streamP, applyP, -, cfgP, -, -, hostP, eventsP, dirtyP⟩ := setPartner_keeps v t
  obtain ⟨pairG, listG, mgmtG, streamG, -, cfgG, hostG, pendingG, expectedG, -⟩ := staleGuard_keeps hello (setPartner v t)
  have pair := pairG.trans pairP
  have list := listG.trans listP
  have stream := streamG.trans streamP
  have events : (staleGuard hello (setPartner v t)).events = t.events := (staleGuard_events_dirty _ _).1.trans eventsP
  exact {
    role := by rw [pair]; exact h.role
    link := by rw [pair]; exact h.link
    drain := by rw [pair]; exact h.drain
    stream := by rw [stream]; exact h.stream
    expected := by rw [expectedG, applyP]; exact h.expected
    pending := by rw [pendingG, applyP]; exact h.pending
    list := by rw [list]; exact h.list
    dirty := by rw [(staleGuard_events_dirty _ _).2, dirtyP]; exact h.dirty
    result := by rw [mgmtG, mgmtP]; exact h.result
    roleChanged := by rw [events]; exact h.roleChanged
    commandEnd := by rw [events]; exact h.commandEnd
    cfg := by rw [cfgG, cfgP]; exact h.cfg
    held := by rw [hostG, hostP]; exact h.held }

/-! ### The answer that removes the HANDOVER record (R27, R36) -/

theorem isBound_singleton {r : Rec} (records : s.list.records = [r]) (sent : r.transmitted = true) :
    isBound s.list (r.seq + 1#16) :=
  .inl ⟨[], r, [], records, sent, by simp, rfl⟩

theorem ahead_succ (n : Half) : ahead (n + 1#16) n = true := by
  rw [ahead_iff, BitVec.add_comm, BitVec.add_sub_cancel]
  decide

theorem removeBehind_handover {r : Rec} {rest : List Frame} (role : s.pair.role = .active) (up : s.pair.link = .up)
    (mode : s.stream.mode = .draining) (running : handoverRunning s = true) (records : s.list.records = [r])
    (body : r.body = .handoverMark epoch) :
    ∃ p, removeBehind (r.seq + 1#16) { s with rx := { s.rx with buffer := rest } }
        = handoverComplete .confirmed epoch r.seq p
      ∧ HandedOver epoch r.seq s (handoverComplete .confirmed epoch r.seq p) := by
  let u : State := { s with rx := { s.rx with buffer := rest } }
  refine ⟨progressed [r] [] u, ?_, HandedOver.of_progressed (handoverComplete_handsOver role up)⟩
  have split : splitAt (r.seq + 1#16) [r] [] := ⟨by simpa using ahead_succ r.seq, by simp⟩
  have noEnd : reportEnd [r] (progressed [r] [] u) = progressed [r] [] u := by
    refine if_neg ?_
    have : (progressed [r] [] u).stream.mode = .draining := mode
    simp [this]
  have running' : handoverRunning (progressed [r] [] u) = true := running
  rw [removeBehind_of_split (s := u) (kept := []) records split (by simp) up, noEnd, reportHandover,
    handoverIn_singleton body]
  exact if_pos running'

end

/-- Settles O35: the completion by an ACK, by a NAK, and by the new active's HELLO. -/
theorem handoverConfirmed : Obligations.HandoverConfirmed := by
  intro epoch rest r s role up mode running records body sent confirmed holds
  have settles (t : State) (h : HandedOver epoch r.seq s t) : confirmed (finish t) ∧ (finish t).apply = t.apply
      ∧ (finish t).pair.partner = t.pair.partner := by
    obtain ⟨role', link, drain, stream, records', nextSeq, reserved, dirty, mgmt, apply, partner, host, roleChanged,
      commandEnd⟩ := h.finish_keeps
    have command : s.mgmt.result.command = some .handover := by
      simp only [handoverRunning, Bool.and_eq_true, beq_iff_eq] at running
      exact running.1
    refine ⟨⟨role', link, ?_, ?_, ?_, ?_, ?_, records', nextSeq, reserved, dirty, drain, ?_, ?_, ?_, ?_, roleChanged,
      commandEnd, fun k q c b port write => ?_⟩, apply, partner⟩
    · rw [stream]; exact h.stream.1
    · rw [stream]; exact h.stream.2.1
    · rw [stream]; exact h.stream.2.2.1
    · rw [stream]; exact h.stream.2.2.2
    · rw [apply]; exact h.expected
    · rw [mgmt, h.result]; exact command
    · rw [mgmt, h.result]
    · rw [mgmt, h.result]
    · rw [mgmt, h.result]
    · rw [host]
      exact h.settles port write
  have within : r.seq + 1#16 = r.seq + 1#16 ∨ ahead (r.seq + 1#16) (r.seq + 1#16) = true := .inl rfl
  have fresh : ahead (r.seq + 1#16) (oldestSeq s.list) = true := by
    rw [oldestSeq, records]
    exact ahead_succ r.seq
  have isB := isBound_singleton records sent
  obtain ⟨p, removed, done⟩ := removeBehind_handover (rest := rest) role up mode running records body
  obtain ⟨-, -, -, -, -, consistent, epochHeld, -⟩ := handoverComplete_facts .confirmed epoch r.seq p
  let u : State := { s with rx := { s.rx with buffer := rest } }
  refine ⟨fun n hn => ⟨fun buffer => ?_, fun buffer => ?_⟩, fun h buffer phase partner reported => ?_⟩
  · subst hn
    obtain ⟨isConfirmed, apply, -⟩ := settles _ done
    refine ⟨_, ?_, isConfirmed, ?_, ?_⟩
    · rw [ackReceived_of_buffer buffer role,
        takeAck_of_within (s := u) role up (.inr (.inr mode)) isB fresh within, removed]
    · rw [apply]; exact consistent
    · rw [apply]; exact epochHeld
  · subst hn
    obtain ⟨isConfirmed, apply, -⟩ := settles _ done.returnSent
    refine ⟨_, ?_, isConfirmed, ?_, ?_⟩
    · rw [nakReceived_of_buffer buffer role,
        takeNak_of_within (s := u) role up (.inr (.inr mode)) isB (ahead_asymm fresh) within (.inl (ne_of_ahead fresh)),
        removed]
    · rw [apply]; exact consistent
    · rw [apply]; exact epochHeld
  · let c := handoverComplete .confirmed epoch r.seq u
    let v := staleGuard h (setPartner (viewOfHello h) c)
    have complete : completeByHello h u = c := by
      rw [completeByHello, show u.list.records = [r] from records, handoverIn_singleton body]
      exact if_pos ⟨running, phase, partner, reported⟩
    have overC : HandedOver epoch r.seq s c :=
      { handoverComplete_handsOver (s := u) role up with }
    have overV : HandedOver epoch r.seq s v := overC.viewed h (viewOfHello h)
    have link : v.pair.link ≠ .up := by rw [overV.link]; decide
    have run : exec .helloReceived s = .next (finish v) := by
      rw [helloReceived_of_buffer buffer, takeHello, complete]
      rw [show u.pair.link = .up from up, helloEffect, leaveUp, if_neg link, judgeFall_of_not_up _ _ _ link]
    obtain ⟨-, -, -, -, -, consistentC, epochC, -⟩ := handoverComplete_facts .confirmed epoch r.seq u
    obtain ⟨pairP, -, -, -, applyP, -⟩ := setPartner_keeps (viewOfHello h) c
    obtain ⟨pairG, -⟩ := staleGuard_keeps h (setPartner (viewOfHello h) c)
    obtain ⟨isConfirmed, apply, partnerV⟩ := settles v overV
    refine ⟨finish v, run, isConfirmed, ?_, fun isOpen => ?_, fun closed => ?_⟩
    · rw [partnerV, pairG, pairP, ← reported, ← partner]
      rfl
    · have same : v = setPartner (viewOfHello h) c := staleGuard_of_spared h (.inr (.inr (.inr isOpen)))
      exact ⟨by rw [apply, same, applyP]; exact consistentC, by rw [apply, same, applyP]; exact epochC⟩
    · have stale := staleGuard_of_stale (s := setPartner (viewOfHello h) c) h (by rw [pairP]; exact overC.role)
        (by rw [applyP, epochC]; rfl) partner closed
      rw [apply, show v = _ from stale]
      exact ⟨rfl, rfl⟩

end Sys2Proof.Machine
end

section
/-! PROOFS. The apply engine: a record in turn, and memory's answers to its words. -/

namespace Sys2Proof.Machine

open Sys2Proof.Safety

section
variable {s : State} {seq : Half}

/-! ### A record in turn (R104 to R108) -/

theorem recordApplied_eq : recordApplied s = { s with
    apply := { s.apply with held := none, expected := s.apply.expected + 1#16, gap := false }
    tx := { s.tx with ackRequest := if s.tx.ackRequest = .none then .ack else s.tx.ackRequest } } := by
  rw [recordApplied, askAck_eq]

/-- A record that was not held leaves the engine holding none. -/
theorem recordApplied_of_free (free : s.apply.held = none) : recordApplied s = { s with
    apply := { s.apply with expected := s.apply.expected + 1#16, gap := false }
    tx := { s.tx with ackRequest := if s.tx.ackRequest = .none then .ack else s.tx.ackRequest } } := by
  rw [recordApplied_eq, ← free]

/-- The words of a non-empty record lie within the named entry's region (R104). -/
theorem regionCheck_iff {table : Vector RegionEntry 16} {region : BitVec 4} {start : WordAddr} {n : Nat} :
    regionCheck table region start (n + 1) = true ↔ (regionAt table region).enabled = true
      ∧ 256 * (regionAt table region).base.toNat ≤ 4 * start.toNat
      ∧ 4 * start.toNat + 4 * (n + 1)
        ≤ 256 * (regionAt table region).base.toNat + 256 * ((regionAt table region).countLess1.toNat + 1) := by
  have byte : start.byte = 4 * start.toNat := rfl
  simp only [regionCheck, regionHas, regionBase, regionLength, byte, Bool.and_eq_true, decide_eq_true_eq, and_assoc]
  refine and_congr_right fun _ => ?_
  omega

/-- The port of a requester whose own transaction may still be in progress (R151). -/
theorem requested_eq (op : InternalOp) (m : MemPort) : requested op m = match m.bus with
    | some (.internal _ _) => m
    | _ => { m with waiting := some op } := by
  rcases m with ⟨_ | _ | _, _, _⟩
  · rfl
  · rfl
  · rfl

/-- A word is asked for at its place in the record (R105). -/
theorem issueWord_of_word {h : HeldRecord} {w : DataWord} (word : h.words[h.next]? = some w) : issueWord h s = { s with
    apply := { s.apply with held := some h }
    mem := requested (.applyWrite (BitVec.ofNat 22 (h.start.toNat + h.next)) w.mask w.data) s.mem } := by
  simp only [issueWord, word, askInternal, wordWrite, wordAfter]

theorem issueWord_of_end {h : HeldRecord} (last : h.words.length ≤ h.next) : issueWord h s = recordApplied s := by
  simp only [issueWord, List.getElem?_eq_none last]

theorem applyFault_eq (cause : FaultCause) (addr : WordAddr) : applyFault cause seq addr s = raise .applyFault { s with
    apply := { s.apply with
      held := none, expected := s.apply.expected + 1#16, gap := false, consistency := .inconsistent
      lastFault := { cause := cause, seq := seq, addr := addr } }
    tx := { s.tx with ackRequest := if s.tx.ackRequest = .none then .ack else s.tx.ackRequest } } := by
  rw [applyFault, recordApplied_eq]

theorem applyFault_of_free (cause : FaultCause) (addr : WordAddr) (free : s.apply.held = none) :
    applyFault cause seq addr s = raise .applyFault { s with
      apply := { s.apply with
        expected := s.apply.expected + 1#16, gap := false, consistency := .inconsistent
        lastFault := { cause := cause, seq := seq, addr := addr } }
      tx := { s.tx with ackRequest := if s.tx.ackRequest = .none then .ack else s.tx.ackRequest } } := by
  rw [applyFault_eq, ← free]

theorem afterEnd_eq (before : Consistency) :
    afterEnd before = if before = .resyncing then .consistent else before := by
  cases before <;> rfl

/-- The record the free engine takes, in turn, is applied by its kind (R99, R100). -/
theorem recordTaken_inTurn {held : Half} {body : RecordBody} {rest : List Frame}
    (buffer : s.rx.buffer = .record seq body :: rest) (role : s.pair.role = .standby) (free : s.apply.held = none)
    (pending : s.apply.handoverPending = none) (epoch : s.apply.heldEpoch = some held) (turn : seq = s.apply.expected)
    (ofHeld : ∀ e scope, body = .beginMark e scope → e = held) :
    exec .recordTaken s = .next (finish (applyInTurn seq body { s with rx := { s.rx with buffer := rest } })) := by
  rw [exec_recordTaken_of_free buffer (engineFree_iff.mpr ⟨role, free, pending⟩),
    judgeRecord_of_heldEpoch (s := { s with rx := { s.rx with buffer := rest } }) epoch ofHeld, judgeSequence]
  simp only [if_pos turn]

end

/-- Settles O42: the four kinds of record. -/
theorem recordAppliedInTurn : Obligations.RecordAppliedInTurn := by
  intro seq held body rest s buffer role free pending epoch turn u applied
  have taken (ofHeld : ∀ e scope, body = .beginMark e scope → e = held) :=
    recordTaken_inTurn buffer role free pending epoch turn ofHeld
  have ended (c : Consistency) : recordApplied { u with apply := { s.apply with consistency := c } } = applied c :=
    recordApplied_of_free (s := { u with apply := { s.apply with consistency := c } }) free
  refine ⟨fun kind region start w words data => ?_, fun scope begins => ?_, fun end_ => ?_,
    fun e handover => ?_⟩
  · intro entry fits
    rw [taken (by rintro _ _ rfl; cases data)]
    subst data
    have judged : applyInTurn seq (.data kind region start (w :: words)) u
      = applyData seq region start (w :: words) u := rfl
    rw [judged, applyData]
    refine ⟨fun fit => ?_, fun misfit => ?_⟩
    · have check : regionCheck s.cfg.regions region start (w :: words).length = true := regionCheck_iff.mpr fit
      have word : (w :: words)[(0 : Nat)]? = some w := rfl
      rw [if_pos check,
        issueWord_of_word (h := { seq := seq, start := start, words := w :: words, next := 0 }) word, requested_eq]
      simp only [Nat.add_zero, BitVec.ofNat_toNat, BitVec.setWidth_eq]
      rfl
    · have check : ¬regionCheck s.cfg.regions region start (w :: words).length = true := mt regionCheck_iff.mp misfit
      rw [if_neg check, applyFault_of_free (s := u) _ _ free]
  · rw [taken (by rintro _ _ rfl; cases begins; rfl)]
    subst begins
    have judged : applyInTurn seq (.beginMark held scope) u = recordApplied { u with
      apply := { s.apply with consistency := afterBegin scope s.apply.consistency } } := rfl
    rw [judged, ended, afterBegin_eq]
  · rw [taken (by rintro _ _ rfl; cases end_)]
    subst end_
    have judged : applyInTurn seq .endMark u = recordApplied { u with
      apply := { s.apply with consistency := afterEnd s.apply.consistency } } := rfl
    rw [judged, ended, afterEnd_eq]
  · intro waiting
    rw [taken (by rintro _ _ rfl; cases handover)]
    subst handover
    have judged : applyInTurn seq (.handoverMark e) u
        = if s.pair.link = .up then waiting else takeHandoverRole waiting := by
      have eq : applyInTurn seq (.handoverMark e) u = applyHandover seq e u := rfl
      rw [eq, applyHandover, recordApplied_of_free (s := u) free]
    rw [judged]
    exact ⟨fun up => by rw [if_pos up], fun off => by rw [if_neg off]⟩

/-! ### Memory's answers (R105, R106, R151, R153) -/

section
variable {s : State}

/-- The word `i` of the walker's chunk, by its block and chunk (R4, R127). -/
theorem wordAfter_chunkStart (w : Walker) (i : Nat) :
    wordAfter (chunkStart w) i = BitVec.ofNat 22 (1024 * w.cursor + 16 * w.nextChunk + i) := by
  apply BitVec.eq_of_toNat_eq
  have place : chunkAddr w.cursor w.nextChunk / 4 = 1024 * w.cursor + 16 * w.nextChunk := by
    unfold chunkAddr
    omega
  simp only [wordAfter, chunkStart, place, BitVec.toNat_ofNat]
  omega

/-- The open SYNC record holds the next word's index in words (R127). -/
theorem syncWords_of_split {l : ReplayList} {before after : List Rec} {r : Rec} {region : BitVec 4} {start : WordAddr}
    {words : List DataWord} (records : l.records = before ++ r :: after) (none : ∀ x ∈ before, isOpenSync x = false)
    (state : r.state = .opened) (body : r.body = .data .sync region start words) :
    fillsSync l = true ∧ syncWords l = words.length := by
  have isOpen : isOpenSync r = true := isOpenSync_iff.mpr ⟨state, region, start, words, body⟩
  have found : l.records.find? isOpenSync = some r := by
    rw [records, List.find?_append, List.find?_eq_none.mpr fun x hx => by simp [none x hx], List.find?_cons_of_pos isOpen]
    rfl
  refine ⟨?_, by simp [syncWords, found, body, bodyWords]⟩
  rw [fillsSync, List.any_eq_true]
  exact ⟨r, by simp [records], isOpen⟩

/-- Only the discarded answer's transaction is gone; the role's requester asks for the word it needs (R151, R153). -/
theorem discardAnswer_discarded (s : State) : discarded s (discardAnswer s) := by
  rw [discardAnswer_eq]
  refine ⟨fun h w role held word => ?_, fun before r after region start words role records none state body => ?_,
    fun applies walks => ?_⟩
  · have needed : neededOp (freeBus s) = some (wordWrite h w) := by
      simp [neededOp, freeBus, role, held, word]
    rw [needed]
    rfl
  · obtain ⟨fills, count⟩ := syncWords_of_split records none state body
    have needed : neededOp (freeBus s) = some (.walkerRead (wordAfter (chunkStart s.walker) words.length)) := by
      simp [neededOp, freeBus, role, fills, count]
    rw [needed, wordAfter_chunkStart]
    rfl
  · have needed : neededOp (freeBus s) = .none := by
      cases role : s.pair.role with
      | none => simp [neededOp, freeBus, role]
      | standby => simp [neededOp, freeBus, role, applies role]
      | active =>
        have idle : fillsSync s.list = false := by simpa [fillsSync] using walks role
        simp [neededOp, freeBus, role, idle]
    rw [needed]
    rfl

theorem applyWriteAnswer_of_own (answer : MemAnswer) {a : WordAddr} {m : LaneMask} {d : Word} {h : HeldRecord}
    (bus : s.mem.bus = some (.internal (.applyWrite a m d) false)) (held : s.apply.held = some h) :
    exec (.applyWriteAnswer answer) s = .next (finish (applyAnswer answer h (busFreed s))) := by
  change Host.Outcome.next _ = _
  simp only [bus, held]
  rfl

end

/-- Settles O43: the disowned answer, the next word, the last word, and the fault. -/
theorem applyWriteAnswered : Obligations.ApplyWriteAnswered := by
  refine ⟨fun answer a m d s bus => ⟨discardAnswer s, ?_, discardAnswer_discarded s⟩, fun a m d data h s bus held => ?_⟩
  · change Host.Outcome.next _ = _
    simp only [bus]
  · intro u applied
    refine ⟨fun w word => ?_, fun last => ?_, ?_⟩
    · rw [applyWriteAnswer_of_own _ bus held, applyAnswer, issueWord_of_word (h := { h with next := h.next + 1 }) word,
        requested_free _ rfl]
    · rw [applyWriteAnswer_of_own _ bus held, applyAnswer, issueWord_of_end (h := { h with next := h.next + 1 }) last,
        recordApplied_eq]
    · rw [applyWriteAnswer_of_own _ bus held, applyAnswer, applyFault_eq]
      rfl

end Sys2Proof.Machine
end

section
/-! PROOFS. The walker: the blocks it takes, the records it opens, and memory's answers to it. -/

namespace Sys2Proof.Machine

open Sys2Proof.Safety

section
variable {s : State}

/-! ### A waiting marker and the search (R27, R125, R128) -/

theorem markerAppend_of_waiting {body : RecordBody} (waiting : s.list.waitingMarker = some body) :
    exec .markerAppend s = .next (if markerMayTake s then
      finish { s with list := addRecord body .pending false { s.list with waitingMarker := none } } else s) := by
  change Host.Outcome.next _ = _
  simp only [waiting]

/-- The lowest mark at or above the cursor is the one the search finds (R125). -/
theorem find_lowest {l : List Nat} {c b : Nat} (sorted : rising l = true) (mem : b ∈ l) (above : c ≤ b)
    (lowest : ∀ x ∈ l, c ≤ x → b ≤ x) : l.find? (fun x => decide (c ≤ x)) = some b := by
  rw [rising_iff_pairwise] at sorted
  obtain ⟨before, after, rfl⟩ := List.append_of_mem mem
  have below : ∀ x ∈ before, ¬c ≤ x := by
    intro x hx reaches
    have lt : x < b := (List.pairwise_append.mp sorted).2.2 x hx b (by simp)
    exact absurd (lowest x (by simp [hx]) reaches) (by omega)
  rw [List.find?_append, List.find?_eq_none.mpr (by simpa using below), List.find?_cons_of_pos (by simpa using above)]
  rfl

section
variable (run : s.walker.run = .running) (free : s.walker.taken = false)
include run free

theorem walkerTakeBlock_of_mark {b : Nat} (found : s.dirty.find? (fun x => decide (s.walker.cursor ≤ x)) = some b) :
    exec .walkerTakeBlock s = .next (takeBlock b s) := by
  have searches : walkerSearches s = true := by simp [walkerSearches, run, free]
  change Host.Outcome.next _ = _
  simp only [if_pos searches, found]

theorem walkerTakeBlock_of_none (none : ∀ x ∈ s.dirty, x < s.walker.cursor) :
    exec .walkerTakeBlock s = .next (finish (finishWalk s)) := by
  have searches : walkerSearches s = true := by simp [walkerSearches, run, free]
  have absent : s.dirty.find? (fun x => decide (s.walker.cursor ≤ x)) = .none :=
    List.find?_eq_none.mpr fun x hx => by simpa using none x hx
  change Host.Outcome.next _ = _
  simp only [if_pos searches, absent]

end

/-! ### Going on (R126, R128) -/

theorem walkerGoOn_of_chunk {j : Nat} (run : s.walker.run = .running) (taken : s.walker.taken = true) (bound : j < 64)
    (next : nextMirrored s.cfg.regions s.walker.cursor s.walker.nextChunk = j) :
    walkerGoOn s = { s with walker := { s.walker with nextChunk := j } } := by
  simp [walkerGoOn, run, taken, next, bound, Config.chunksPerBlock]

theorem walkerGoOn_of_end (run : s.walker.run = .running) (taken : s.walker.taken = true)
    (next : nextMirrored s.cfg.regions s.walker.cursor s.walker.nextChunk = 64) :
    walkerGoOn s = { s with walker := { s.walker with taken := false, cursor := s.walker.cursor + 1, nextChunk := 0 } } := by
  simp [walkerGoOn, run, taken, next, Config.chunksPerBlock, finishBlock]

theorem walkerGoOn_of_free (free : s.walker.taken = false) : walkerGoOn s = s := by
  simp [walkerGoOn, free]

/-! ### Opening a SYNC record (R126, R127) -/

theorem chunkStart_eq (w : Walker) : chunkStart w = BitVec.ofNat 22 (1024 * w.cursor + 16 * w.nextChunk) := by
  have first : wordAfter (chunkStart w) 0 = chunkStart w := by simp [wordAfter]
  rw [← first, wordAfter_chunkStart, Nat.add_zero]

theorem chunkStart_byte {w : Walker} (block : w.cursor < 4096) (chunk : w.nextChunk < 64) :
    (chunkStart w).byte = 4096 * w.cursor + 64 * w.nextChunk := by
  rw [chunkStart_eq, show ∀ a : WordAddr, a.byte = 4 * a.toNat from fun _ => rfl, BitVec.toNat_ofNat]
  omega

theorem walkerMayTake_iff : walkerMayTake s = true ↔
    occupancy s.list + (hostWaits s).toNat + s.list.waitingMarker.isSome.toNat < 64 :=
  decide_eq_true_iff

theorem openSync_eq {region : BitVec 4} (block : s.walker.cursor < 4096) (chunk : s.walker.nextChunk < 64)
    (index : regionIndexAt s.cfg.regions (4096 * s.walker.cursor + 64 * s.walker.nextChunk) = some region) :
    openSync s = { s with
      list := addRecord (.data .sync region (BitVec.ofNat 22 (1024 * s.walker.cursor + 16 * s.walker.nextChunk)) [])
        .opened false (closeWrite s.list)
      mem := requested (.walkerRead (BitVec.ofNat 22 (1024 * s.walker.cursor + 16 * s.walker.nextChunk))) s.mem } := by
  have body : syncBody s = .data .sync region (chunkStart s.walker) [] := by
    rw [syncBody, chunkStart_byte block chunk, index]
    rfl
  rw [openSync, body, chunkStart_eq]
  rfl

theorem walkerOpenSync_eq (asks : walkerAsks s = true) :
    exec .walkerOpenSync s = .next (if walkerMayTake s then finish (openSync s) else s) := by
  change Host.Outcome.next _ = _
  simp only [asks, Bool.true_and]

end

/-- Settles O46: the waiting marker, the search, and the opening of a SYNC record. -/
theorem walkerTakesAndOpens : Obligations.WalkerTakesAndOpens := by
  refine ⟨fun body s waiting => ?_, fun s run free => ⟨fun b mem sorted above lowest => ?_, fun none => ?_⟩,
    fun region s run taken due idle block chunk index => ?_⟩
  · rw [markerAppend_of_waiting waiting]
    refine ⟨fun room => by rw [if_pos (markerMayTake_iff.mpr room)]; rfl, fun full => ?_⟩
    rw [if_neg (mt markerMayTake_iff.mp (by omega))]
  · let t : State := { s with
      dirty := s.dirty.erase b
      walker := { s.walker with cursor := b, taken := true, nextChunk := 0 } }
    rw [walkerTakeBlock_of_mark run free (find_lowest sorted mem above lowest)]
    refine ⟨fun k bound before here => ?_, fun none => ?_⟩
    · have next : nextMirrored s.cfg.regions b 0 = k :=
        nextMirrored_of_first bound (Nat.zero_le k) (fun i hi _ => before i hi) here
      rw [takeBlock, walkerGoOn_of_chunk (s := t) run rfl bound next]
    · have next : nextMirrored s.cfg.regions b 0 = 64 := nextMirrored_of_none fun j hj _ => none j hj
      rw [takeBlock, walkerGoOn_of_end (s := t) run rfl next]
  · intro walked
    rw [walkerTakeBlock_of_none run free none, finishWalk, askMarker]
    refine ⟨fun room => by rw [if_pos (markerMayTake_iff (s := walked).mpr room)]; rfl, fun full => ?_⟩
    rw [if_neg (mt (markerMayTake_iff (s := walked)).mp (Nat.not_lt.mpr full))]
  · intro start
    have asks : walkerAsks s = true := by simp [walkerAsks, run, taken, due, idle, chunk, Config.chunksPerBlock]
    rw [walkerOpenSync_eq asks]
    refine ⟨fun room => ?_, fun full => ?_⟩
    · rw [if_pos (walkerMayTake_iff.mpr room), openSync_eq block chunk index, requested_eq]
      rfl
    · rw [if_neg (mt walkerMayTake_iff.mp (Nat.not_lt.mpr full))]

section
variable {s : State}

/-! ### Memory's answers (R127, R130) -/

theorem walkerReadAnswer_of_own {a : WordAddr} (bus : s.mem.bus = some (.internal (.walkerRead a) false)) :
    (∀ data, exec (.walkerReadAnswer (.ok data)) s = .next (finish (walkerRead data (busFreed s))))
    ∧ exec (.walkerReadAnswer .fault) s = .next (finish (resyncAbandon (busFreed s))) := by
  refine ⟨fun data => ?_, ?_⟩
  · change Host.Outcome.next _ = _
    simp only [bus, Bool.false_eq_true, if_false]
    rfl
  · change Host.Outcome.next _ = _
    simp only [bus, Bool.false_eq_true, if_false]
    rfl

/-- The word goes to the end of the open SYNC record, which becomes PENDING at its sixteenth (R127). -/
theorem fillSync_of_split {l : ReplayList} {before after : List Rec} {r : Rec} {region : BitVec 4} {start : WordAddr}
    {words : List DataWord} (data : Word) (records : l.records = before ++ r :: after)
    (others : ∀ x ∈ before ++ after, isOpenSync x = false) (state : r.state = .opened)
    (body : r.body = .data .sync region start words) :
    fillSync data l = { l with records := before ++ { r with
      body := .data .sync region start (words ++ [{ mask := fullMask, data := data }])
      state := if words.length + 1 = 16 then .pending else .opened } :: after } := by
  obtain ⟨-, count⟩ := syncWords_of_split records (fun x hx => others x (List.mem_append_left _ hx)) state body
  have isOpen : isOpenSync r = true := isOpenSync_iff.mpr ⟨state, region, start, words, body⟩
  have skips (rs : List Rec) (sub : ∀ x ∈ rs, x ∈ before ++ after) (f : Rec → Rec) :
      rs.map (fun x => if isOpenSync x then f x else x) = rs :=
    (List.map_congr_left fun x hx => by simp [others x (sub x hx)]).trans (List.map_id rs)
  rw [fillSync, records, List.map_append, List.map_cons, skips before fun x hx => by simp [hx],
    skips after fun x hx => by simp [hx], if_pos isOpen, body, count]
  simp [appendWord, Config.wordsPerChunk]

/-- What the walker is once it has closed its chunk (R124, R127, R128). -/
theorem chunkClosed_of_due (due : s.walker.pauseDue = true) :
    (s.walker.nextChunk + 1 < 64 → chunkClosed s = { s with
      walker := { s.walker with run := .paused, pauseDue := false, nextChunk := s.walker.nextChunk + 1 } })
    ∧ (64 ≤ s.walker.nextChunk + 1 → chunkClosed s = { s with
      walker := { s.walker with
        run := .paused, pauseDue := false, taken := false, cursor := s.walker.cursor + 1, nextChunk := 0 } }) := by
  refine ⟨fun inside => ?_, fun last => ?_⟩
  · have bound : s.walker.nextChunk + 1 < Config.chunksPerBlock := inside
    simp [chunkClosed, bound, due]
  · have bound : ¬s.walker.nextChunk + 1 < Config.chunksPerBlock := Nat.not_lt.mpr last
    simp [chunkClosed, bound, finishBlock, due]

theorem chunkClosed_of_inside (free : s.walker.pauseDue = false) (inside : s.walker.nextChunk + 1 < 64) :
    chunkClosed s = walkerGoOn { s with walker := { s.walker with nextChunk := s.walker.nextChunk + 1 } } := by
  have bound : s.walker.nextChunk + 1 < Config.chunksPerBlock := inside
  simp only [chunkClosed, if_pos bound]
  exact if_neg (by simp [free])

theorem chunkClosed_of_over (free : s.walker.pauseDue = false) (last : 64 ≤ s.walker.nextChunk + 1) :
    chunkClosed s = { s with walker := { s.walker with taken := false, cursor := s.walker.cursor + 1, nextChunk := 0 } } := by
  have bound : ¬s.walker.nextChunk + 1 < Config.chunksPerBlock := Nat.not_lt.mpr last
  simp only [chunkClosed, if_neg bound]
  exact (if_neg (by simp [finishBlock, free])).trans (walkerGoOn_of_free rfl)

theorem chunkClosed_of_next {j : Nat} (run : s.walker.run = .running) (taken : s.walker.taken = true)
    (free : s.walker.pauseDue = false) (bound : j < 64) (after : s.walker.nextChunk < j)
    (before : ∀ i < j, s.walker.nextChunk < i → mirroredChunk s.cfg.regions s.walker.cursor i = false)
    (here : mirroredChunk s.cfg.regions s.walker.cursor j = true) :
    chunkClosed s = { s with walker := { s.walker with nextChunk := j } } := by
  let t : State := { s with walker := { s.walker with nextChunk := s.walker.nextChunk + 1 } }
  have next : nextMirrored t.cfg.regions t.walker.cursor t.walker.nextChunk = j :=
    nextMirrored_of_first bound after before here
  rw [chunkClosed_of_inside free (Nat.lt_of_le_of_lt after bound), walkerGoOn_of_chunk (s := t) run taken bound next]

theorem chunkClosed_of_last (run : s.walker.run = .running) (taken : s.walker.taken = true)
    (free : s.walker.pauseDue = false)
    (none : ∀ j < 64, s.walker.nextChunk < j → mirroredChunk s.cfg.regions s.walker.cursor j = false) :
    chunkClosed s = { s with walker := { s.walker with taken := false, cursor := s.walker.cursor + 1, nextChunk := 0 } } := by
  by_cases inside : s.walker.nextChunk + 1 < 64
  · let t : State := { s with walker := { s.walker with nextChunk := s.walker.nextChunk + 1 } }
    have next : nextMirrored t.cfg.regions t.walker.cursor t.walker.nextChunk = 64 := nextMirrored_of_none none
    rw [chunkClosed_of_inside free inside, walkerGoOn_of_end (s := t) run taken next]
  · exact chunkClosed_of_over free (Nat.not_lt.mp inside)

/-- A resync abandoned with its SYNC record open (R29, R130). -/
theorem resyncAbandon_of_split {before after : List Rec} {r : Rec} (records : s.list.records = before ++ r :: after)
    (first : ∀ x ∈ before, isOpenSync x = false) (isOpen : isOpenSync r = true) (taken : s.walker.taken = true) :
    resyncAbandon s = raise .resyncEnd { s with
      list := { s.list with
        records := (before ++ after.map fun x : Rec => { x with seq := x.seq - 1#16 }).map closeRec
        nextSeq := s.list.nextSeq - 1#16
        coalesceTimer := none }
      stream := { s.stream with mode := .normal }
      dirty := markBlock s.walker.cursor s.dirty
      walker := { s.walker with run := .stopped, pauseDue := false, taken := false, outcome := .failed }
      mem := (withdrawInternal s).mem } := by
  have fills : fillsSync s.list = true := by
    rw [fillsSync, List.any_eq_true]
    exact ⟨r, by simp [records], isOpen⟩
  have dropped : abandonSync s.list = { s.list with
      records := before ++ after.map fun x => { x with seq := x.seq - 1#16 }
      nextSeq := s.list.nextSeq - 1#16 } := by
    rw [abandonSync, if_pos fills, records, dropOpenSync_append first isOpen]
  rw [resyncAbandon, dropped, closeWrite_eq]
  simp only [taken, if_true]
  rfl

end

/-- Settles O47: the disowned answer, the next word, the closed chunk, and the abandoned resync. -/
theorem walkerReadAnswered : Obligations.WalkerReadAnswered := by
  refine ⟨fun answer a s bus => ⟨discardAnswer s, ?_, discardAnswer_discarded s⟩,
    fun a data before after r region start words s bus run taken records state body others => ?_⟩
  · change Host.Outcome.next _ = _
    simp only [bus, if_true]
  · intro c k filled lowered pended
    obtain ⟨ok, fault⟩ := walkerReadAnswer_of_own bus
    have first : ∀ x ∈ before, isOpenSync x = false := fun x hx => others x (List.mem_append_left _ hx)
    have isOpen : isOpenSync r = true := isOpenSync_iff.mpr ⟨state, region, start, words, body⟩
    obtain ⟨-, count⟩ := syncWords_of_split (l := s.list) records first state body
    have fill := fillSync_of_split (l := s.list) data records others state body
    refine ⟨fun more => ?_, fun full => ?_, ?_⟩
    · have notLast : words.length + 1 ≠ 16 := by omega
      have read : walkerRead data (busFreed s) = askInternal (.walkerRead (wordAfter (chunkStart s.walker) (words.length + 1)))
          { busFreed s with list := fillSync data s.list } := by
        simp only [walkerRead, count]
        exact if_pos more
      rw [ok, read, fill, if_neg notLast, wordAfter_chunkStart, askInternal, requested_free _ rfl]
    · intro closed
      let t : State := { s with
        list := { s.list with records := filled .pending }
        mem := { s.mem with bus := none } }
      have read : walkerRead data (busFreed s) = chunkClosed t := by
        simp only [walkerRead, count, fill, if_pos full]
        exact if_neg (by rw [full]; decide)
      rw [ok, read]
      refine ⟨fun due => ?_, fun free => ⟨fun j bound later between here => ?_, fun none => ?_⟩⟩
      · obtain ⟨inside, last⟩ := chunkClosed_of_due (s := t) due
        exact ⟨fun bound => by rw [inside bound], fun bound => by rw [last bound]⟩
      · rw [chunkClosed_of_next (s := t) run taken free bound later between here]
      · rw [chunkClosed_of_last (s := t) run taken free none]
    · rw [fault, resyncAbandon_of_split (s := busFreed s) records first isOpen taken]
      rfl

end Sys2Proof.Machine
end

section
/-! PROOFS. Events and their reflexes: what taking an event does, and the auto-resync request. -/

namespace Sys2Proof.Machine

open Sys2Proof.Safety

/-! ### Flags and routes (R157, R160) -/

/-- The events are in the order of their numbers (11.5). -/
theorem allEvents_eventBit (e : Event) : allEvents[eventBit e]? = some e := by
  cases e <;> rfl

theorem eventBit_inj {x e : Event} : eventBit x = eventBit e ↔ x = e := by
  refine ⟨fun h => ?_, congrArg eventBit⟩
  have same := allEvents_eventBit x
  rw [h, allEvents_eventBit e] at same
  exact (Option.some.inj same).symm

theorem eventBit_lt (e : Event) : eventBit e < 15 := by
  cases e <;> decide

theorem flagSet_withFlag_iff {flags : BitVec 15} {x e : Event} :
    flagSet (withFlag flags e) x = true ↔ x = e ∨ flagSet flags x = true := by
  have bound := eventBit_lt x
  have position : (1#15 <<< eventBit e).getLsbD (eventBit x) = true ↔ x = e := by
    rw [BitVec.getLsbD_shiftLeft, BitVec.getLsbD_one, ← eventBit_inj]
    simp only [Bool.and_eq_true, Bool.not_eq_true', decide_eq_true_eq, decide_eq_false_iff_not]
    omega
  rw [flagSet, withFlag, BitVec.getLsbD_or, Bool.or_eq_true, position, or_comm]
  rfl

theorem routeOf_eq_reflex_iff {routes : BitVec 30} {e : Event} : routeOf routes e = .reflex ↔ routeCode routes e = 2 := by
  unfold routeOf
  split <;> simp_all

theorem routeOf_eq_alert_iff {routes : BitVec 30} {e : Event} : routeOf routes e = .alert ↔ routeCode routes e = 1 := by
  unfold routeOf
  split <;> simp_all

section
variable {s : State}

theorem raise_of_reflex {e : Event} (reflex : routeCode s.cfg.routes e = 2) :
    raise e s = startReflex e (updateAlert { s with events := { s.events with flags := withFlag s.events.flags e } }) :=
  if_pos (routeOf_eq_reflex_iff.mpr reflex)

theorem raise_of_no_reflex {e : Event} (none : ¬(routeCode s.cfg.routes e = 2
    ∧ ((e = .linkLost ∧ s.pair.role = .standby) ∨ e = .partnerInconsistent))) :
    raise e s = updateAlert { s with events := { s.events with flags := withFlag s.events.flags e } } := by
  by_cases reflex : routeCode s.cfg.routes e = 2
  · rw [raise_of_reflex reflex]
    cases e with
    | linkLost => exact if_neg fun role => none ⟨reflex, .inl ⟨rfl, role⟩⟩
    | partnerInconsistent => exact absurd ⟨reflex, .inr rfl⟩ none
    | _ => rfl
  · exact if_neg (mt routeOf_eq_reflex_iff.mp reflex)

/-! ### The auto-resync request (R136, R165) -/

theorem autoResyncTaken_of_request (request : s.walker.autoRequest = true) : exec .autoResyncTaken s =
    .next (finish (autoResync { s with walker := { s.walker with autoRequest := false } })) := by
  change Host.Outcome.next _ = _
  rw [if_pos request]

theorem autoResync_of_idle (h : s.stream.mode = .closed ∨ s.stream.mode = .tracking
    ∨ (s.stream.mode = .draining ∧ s.mgmt.result.detail = .committed)) : autoResync s = setAutoResync .noEffect s := by
  rcases h with mode | mode | ⟨mode, phase⟩
  · simp only [autoResync, mode]
  · simp only [autoResync, mode]
  · simp only [autoResync, mode, if_pos phase]

theorem autoResync_of_streaming (h : s.stream.mode = .normal ∨ s.stream.mode = .resync) :
    autoResync s = setAutoResync (if s.stream.mode = .normal then .started else .replaced) (resyncStart s) := by
  rcases h with mode | mode
  · simp only [autoResync, mode, if_true]
  · rw [if_neg (by simp [mode])]
    simp only [autoResync, mode]

/-- A handover that is cancelled for a resync takes its record with it (R94, R165). -/
theorem autoResync_of_draining (mode : s.stream.mode = .draining) (phase : s.mgmt.result.detail ≠ .committed) :
    autoResync s = setAutoResync .handoverCancelled (resyncStart (handoverCancel .partnerInconsistent s)) := by
  simp only [autoResync, mode, if_neg phase]

end

/-- Settles O48: the request by the stream mode; the event by its route. -/
theorem autoResyncTaken : Obligations.AutoResyncTaken := by
  refine ⟨fun s request => ?_, fun e s => ⟨withFlag s.events.flags e, fun x => flagSet_withFlag_iff, ?_⟩⟩
  · intro u noted
    rw [autoResyncTaken_of_request request]
    refine ⟨fun mode => ?_, fun mode => ?_, fun mode => ?_, fun mode phase => ?_, fun mode phase => ?_⟩
    · rw [autoResync_of_streaming (s := u) (.inl mode), if_pos (show u.stream.mode = .normal from mode)]
      rfl
    · have other : u.stream.mode ≠ .normal := by rw [show u.stream.mode = .resync from mode]; decide
      rw [autoResync_of_streaming (s := u) (.inr mode), if_neg other]
      rfl
    · rw [autoResync_of_idle (s := u) (by tauto)]
      rfl
    · rw [autoResync_of_idle (s := u) (.inr (.inr ⟨mode, phase⟩))]
      rfl
    · intro cancelled
      rw [autoResync_of_draining (s := u) mode phase]
      refine ⟨fun unmarked => ?_, fun r epoch records body => ?_⟩
      · rw [handoverCancel, dropHandover_of_none (l := u.list) unmarked]
        rfl
      · have marked : handoverIn u.list.records = some (epoch, r.seq) := by
          rw [show u.list.records = [r] from records, handoverIn_singleton body]
        rw [handoverCancel, dropHandover_of_some marked, show u.list.records = [r] from records]
        rfl
  · intro noted reflex
    refine ⟨fun routed lost role => ?_, fun routed inconsistent => ?_, fun none => ?_⟩
    · subst lost
      rw [raise_of_reflex routed]
      exact if_pos role
    · subst inconsistent
      rw [raise_of_reflex routed]
      rfl
    · rw [raise_of_no_reflex none]
      rfl

end Sys2Proof.Machine
end

section
/-! PROOFS. The commands of the slot: the role commands, HANDOVER, RESYNC and RELOAD. -/

namespace Sys2Proof.Machine

open Sys2Proof.Safety

section
variable {s : State} {target : BitVec 7}

/-! ### A command that a free slot takes (R89, R173, R177) -/

theorem commandTransaction_of_free {c : Command} (own : State → State) (other : isRoleCommand c = false)
    (addressed : acknowledges target s = true) (ready : s.loader.state ≠ .loading)
    (free : s.mgmt.result.state ≠ .inProgress) : commandTransaction target c own s =
      own { s with mgmt := { s.mgmt with acked := 6, selected := 0x50#8, access := .ok } } := by
  rw [commandTransaction_of_ready c own addressed ready,
    takeCommand_own (s := { s with mgmt := { s.mgmt with acked := 6, selected := 0x50#8 } }) c own free, other]
  rfl

/-- A role command has stopped the promote timer before its own rule judges it (R89). -/
theorem commandTransaction_of_role {c : Command} (own : State → State) (role : isRoleCommand c = true)
    (addressed : acknowledges target s = true) (ready : s.loader.state ≠ .loading)
    (free : s.mgmt.result.state ≠ .inProgress) : commandTransaction target c own s = own { s with
      pair := { s.pair with promoteTimer := none }
      events := { s.events with
        autoPromote := if s.pair.promoteTimer.isSome then .cancelled else s.events.autoPromote }
      mgmt := { s.mgmt with acked := 6, selected := 0x50#8, access := .ok } } := by
  rw [commandTransaction_of_ready c own addressed ready,
    takeCommand_own (s := { s with mgmt := { s.mgmt with acked := 6, selected := 0x50#8 } }) c own free, role, if_pos rfl,
    cancelPromote_eq]
  rfl

/-! ### The role commands (R86 to R88) -/

theorem setActiveEffect_of_none (role : s.pair.role = .none) :
    setActiveEffect s = finish (doneAtOnce .setActive (changeRole .active s)) := by
  simp only [setActiveEffect, role]

theorem setActiveEffect_of_active (role : s.pair.role = .active) : setActiveEffect s = doneAtOnce .setActive s := by
  simp only [setActiveEffect, role]

theorem setActiveEffect_of_standby (role : s.pair.role = .standby) : setActiveEffect s =
    if s.pair.link = .up ∧ s.pair.partner.role = .active then refusedAtOnce .setActive .partnerActive s
    else finish (doneAtOnce .setActive (promote s)) := by
  simp only [setActiveEffect, role]

end

/-- Settles O54: each command by the role it finds. -/
theorem roleCommands : Obligations.RoleCommands := by
  intro target s addressed ready free u ended
  have taken (c : Command) (own : State → State) (role : isRoleCommand c = true) :
      commandTransaction target c own s = own u := commandTransaction_of_role own role addressed ready free
  have setActive : exec (.setActive target) s = .next (setActiveEffect u) := congrArg _ (taken .setActive _ rfl)
  have setStandby : exec (.setStandby target) s = .next (setStandbyEffect u) := congrArg _ (taken .setStandby _ rfl)
  have setNone : exec (.setNone target) s = .next (setNoneEffect u) := congrArg _ (taken .setNone _ rfl)
  rw [setActive, setStandby, setNone]
  refine ⟨fun role => ?_, fun role => ⟨fun up partner => ?_, fun alone => ?_⟩, fun role => ?_, fun role => ?_,
    fun role => ?_, fun role => ?_, fun role => ?_⟩
  · rw [setActiveEffect_of_none (s := u) role]
    rfl
  · rw [setActiveEffect_of_standby (s := u) role, if_pos (show u.pair.link = .up ∧ u.pair.partner.role = .active from
      ⟨up, partner⟩)]
    rfl
  · have free : ¬(u.pair.link = .up ∧ u.pair.partner.role = .active) := fun h => alone.elim (· h.1) (· h.2)
    rw [setActiveEffect_of_standby (s := u) role, if_neg free]
    rfl
  · rw [setActiveEffect_of_active (s := u) role]
    rfl
  · rw [setStandbyEffect, if_neg (show ¬u.pair.role = .standby from role)]
    rfl
  · rw [setStandbyEffect, if_pos (show u.pair.role = .standby from role)]
    rfl
  · rw [setNoneEffect, if_neg (show ¬u.pair.role = .none from role)]
    rfl
  · rw [setNoneEffect, if_pos (show u.pair.role = .none from role)]
    rfl

section
variable {s : State}

/-! ### The first failing reason (R90, R119) -/

theorem forwardedUnreserved_iff : forwardedUnreserved s = true ↔ ∃ q c b, s.host.port = .forwarded q c b
    ∧ q.kind = .write ∧ c.policy ≠ .pass ∧ s.list.reserved = false := by
  unfold forwardedUnreserved
  split
  next q c b port => simp [port, isMirroredWrite, mirrors_iff, and_assoc]
  next other =>
    refine ⟨fun h => absurd h Bool.false_ne_true, ?_⟩
    rintro ⟨q, c, b, port, -⟩
    exact absurd port (other q c b)

theorem handoverEffect_of_refused {reason : Reason} (refused : handoverRefusal s = some reason) :
    handoverEffect s = refusedAtOnce .handover reason s := by
  simp only [handoverEffect, refused]

theorem resyncEffect_of_refused {reason : Reason} (refused : resyncRefusal s = some reason) :
    resyncEffect s = refusedAtOnce .resync reason s := by
  simp only [resyncEffect, refused]

theorem refusals_of_not_active (role : s.pair.role ≠ .active) :
    handoverRefusal s = some .notActive ∧ resyncRefusal s = some .notActive :=
  ⟨if_pos role, if_pos role⟩

section
variable (role : s.pair.role = .active)
include role

theorem refusals_of_not_up (link : s.pair.link ≠ .up) :
    handoverRefusal s = some .linkNotUp ∧ resyncRefusal s = some .linkNotUp := by
  simp [handoverRefusal, resyncRefusal, role, link]

variable (up : s.pair.link = .up)
include up

theorem resyncRefusal_of_up : resyncRefusal s =
    if s.pair.partner.role ≠ .standby then some .partnerNotReady
    else if s.stream.mode ≠ .normal then some .streamNotNormal else none := by
  simp only [resyncRefusal, role, up, ne_eq, not_true_eq_false, if_false]

theorem handoverRefusal_of_up : handoverRefusal s =
    if s.pair.partner.role ≠ .standby ∨ s.pair.partner.consistency ≠ .consistent then some .partnerNotReady
    else if s.stream.mode ≠ .normal ∨ forwardedUnreserved s then some .streamNotNormal else none := by
  simp only [handoverRefusal, role, up, ne_eq, not_true_eq_false, if_false]

end

/-- A LIST hold passes under the drain, every other port state stays (R90, R43). -/
theorem drainPort_eq (p : PortState) : drainPort p = match p with
    | .held .list q c b => .held .drain q c b
    | p => p := rfl

/-- An accepted HANDOVER, with the open WRITE record closed record by record (R20, R90). -/
theorem acceptHandover_eq : acceptHandover s = { s with
    stream := { s.stream with mode := .draining }
    pair := { s.pair with drainTimer := some (1000 * s.cfg.drainTimeout.toNat) }
    list := { s.list with
      records := s.list.records.map (fun r =>
        if r.state = .opened ∧ isWrite r.body then { r with state := .pending } else r)
      coalesceTimer := none
      holdTimer := none }
    host := { s.host with port := drainPort s.host.port }
    mgmt := { s.mgmt with result := { command := some .handover, state := .inProgress, reason := .none, detail := .drain
                                      busyRefusal := none } } } := by
  rw [← closeWrite_records]
  rfl

end

/-- Settles O55: the reasons in their order, and the three acceptances. -/
theorem handoverResyncReloadJudged : Obligations.HandoverResyncReloadJudged := by
  intro target s addressed ready free u result refused unreserved
  have taken (c : Command) (own : State → State) (other : isRoleCommand c = false) :
      commandTransaction target c own s = own u := commandTransaction_of_free own other addressed ready free
  have handover : exec (.handover target) s = .next (handoverEffect u) := congrArg _ (taken .handover _ rfl)
  have resync : exec (.resync target) s = .next (resyncEffect u) := congrArg _ (taken .resync _ rfl)
  have reload : exec (.reload target) s = .next (reloadEffect u) := congrArg _ (taken .reload _ rfl)
  have refuses {reason : Reason} (h : handoverRefusal u = some reason) : exec (.handover target) s =
      .next (refused .handover reason) := by rw [handover, handoverEffect_of_refused h]; rfl
  have resyncRefuses {reason : Reason} (h : resyncRefusal u = some reason) : exec (.resync target) s =
      .next (refused .resync reason) := by rw [resync, resyncEffect_of_refused h]; rfl
  have waits : forwardedUnreserved u = true ↔ unreserved := forwardedUnreserved_iff (s := u)
  refine ⟨fun role => ?_, fun role => ⟨fun link => ?_, fun up => ?_⟩, fun role => ?_, fun role => ?_⟩
  · obtain ⟨h, r⟩ := refusals_of_not_active (s := u) role
    exact ⟨refuses h, resyncRefuses r⟩
  · obtain ⟨h, r⟩ := refusals_of_not_up (s := u) role link
    exact ⟨refuses h, resyncRefuses r⟩
  · have judgesResync := resyncRefusal_of_up (s := u) role up
    have judgesHandover := handoverRefusal_of_up (s := u) role up
    refine ⟨fun partner => resyncRefuses (judgesResync.trans (if_pos partner)),
      fun partner => refuses (judgesHandover.trans (if_pos partner)),
      fun partner => ⟨fun mode => ?_, fun mode => ?_⟩, fun partner consistent => ⟨fun busy => ?_, fun mode spared => ?_⟩⟩
    · exact resyncRefuses (judgesResync.trans ((if_neg (not_not.mpr partner)).trans (if_pos mode)))
    · have accepted : resyncRefusal u = none :=
        judgesResync.trans ((if_neg (not_not.mpr partner)).trans (if_neg (not_not.mpr mode)))
      rw [resync, resyncEffect, accepted]
      rfl
    · have fit : ¬(u.pair.partner.role ≠ .standby ∨ u.pair.partner.consistency ≠ .consistent) := by
        rintro (h | h)
        · exact h partner
        · exact h consistent
      exact refuses (judgesHandover.trans ((if_neg fit).trans (if_pos (busy.imp_right waits.mpr))))
    · have fit : ¬(u.pair.partner.role ≠ .standby ∨ u.pair.partner.consistency ≠ .consistent) := by
        rintro (h | h)
        · exact h partner
        · exact h consistent
      have quiet : ¬(u.stream.mode ≠ .normal ∨ forwardedUnreserved u = true) := by
        rintro (h | h)
        · exact h mode
        · exact spared (waits.mp h)
      have accepted : handoverRefusal u = none := judgesHandover.trans ((if_neg fit).trans (if_neg quiet))
      rw [handover, handoverEffect, accepted]
      simp only [acceptHandover_eq, drainPort_eq]
      rfl
  · rw [reload, reloadEffect, if_neg (show ¬u.pair.role = .none from role)]
    rfl
  · rw [reload, reloadEffect, if_pos (show u.pair.role = .none from role)]
    rfl

end Sys2Proof.Machine
end

section
/-! PROOFS. The order of a write's checks. -/

namespace Sys2Proof.Machine

open Sys2Proof.Safety

section
variable {s : State} {target : BitVec 7}

/-! ### The checks that come before an item's own (R173) -/

theorem writeTransaction_unknown {item : Byte} (own : State → State) (addressed : acknowledges target s = true)
    (unknown : itemKind item = none) : writeTransaction target item own s =
      { s with mgmt := { s.mgmt with acked := 6, selected := item, access := .unknown } } := by
  simp [writeTransaction, transaction, writeLength, addressed, unknown, selectItem, setAccess]

theorem writeTransaction_readOnly {item : Byte} (own : State → State) (addressed : acknowledges target s = true)
    (kind : itemKind item = some .readOnly) (ready : s.loader.state ≠ .loading) : writeTransaction target item own s =
      { s with mgmt := { s.mgmt with acked := 6, selected := item, access := .readOnly } } := by
  simp [writeTransaction, transaction, writeLength, addressed, kind, ready, selectItem, setAccess]

/-! ### COMMAND (R177) -/

theorem commandOfCode_eq_none {n : Nat} (h : n = 0 ∨ 8 < n) : commandOfCode n = none := by
  unfold commandOfCode
  split
  case h_9 => rfl
  all_goals omega

theorem writeOwn_command (v : Word) : writeOwn 0x50#8 v = writeCommand v := rfl

/-- The write of a command's code is the write of that command (R177, 11.5). -/
theorem writeCommand_code (c : Command) :
    writeCommand (valueOf { first := 0#8, second := 0#8, third := 0#8, fourth := BitVec.ofNat 8 (commandCode c) })
      = takeCommand c (commandEffect c) := by
  cases c <;> rfl

/-- The table's row of a command. -/
def commandRow (target : BitVec 7) : Command → Instr
  | .setActive => .setActive target
  | .setStandby => .setStandby target
  | .setNone => .setNone target
  | .handover => .handover target
  | .resync => .resync target
  | .restart => .restart target
  | .reload => .reload target
  | .clearCounters => .clearCounters target

theorem exec_commandRow (c : Command) :
    exec (commandRow target c) s = .next (commandTransaction target c (commandEffect c) s) := by
  cases c <;> rfl

theorem exec_commandRow_eq_itemWrite (c : Command) : exec (commandRow target c) s = exec (.itemWrite target 0x50#8
    { first := 0#8, second := 0#8, third := 0#8, fourth := BitVec.ofNat 8 (commandCode c) }) s := by
  rw [exec_commandRow, commandTransaction, ← writeCommand_code, ← writeOwn_command]
  rfl

theorem isRoleCommand_iff {c : Command} : isRoleCommand c = true ↔ c = .setActive ∨ c = .setStandby ∨ c = .setNone := by
  cases c <;> simp [isRoleCommand]

theorem exec_commandRow_loading (c : Command) (addressed : acknowledges target s = true)
    (loading : s.loader.state = .loading) : exec (commandRow target c) s =
      .next { s with mgmt := { s.mgmt with acked := 6, selected := 0x50#8, access := .loading } } := by
  rw [exec_commandRow, commandTransaction, writeTransaction_loading _ addressed itemKind_command loading]

/-- A command that finds another IN_PROGRESS leaves only its busy refusal; a role command has stopped the promote timer
even so (R89, R177). -/
theorem exec_commandRow_busy (c : Command) (addressed : acknowledges target s = true)
    (ready : s.loader.state ≠ .loading) (busy : s.mgmt.result.state = .inProgress) :
    let stopped : State :=
      if c = .setActive ∨ c = .setStandby ∨ c = .setNone then { s with
        pair := { s.pair with promoteTimer := none }
        events := { s.events with
          autoPromote := if s.pair.promoteTimer.isSome then .cancelled else s.events.autoPromote } }
      else s
    exec (commandRow target c) s = .next (raise .commandEnd { stopped with mgmt := { s.mgmt with
      acked := 6, selected := 0x50#8, access := .ok
      result := { s.mgmt.result with busyRefusal := some c } } }) := by
  intro stopped
  rw [exec_commandRow, commandTransaction_of_ready c _ addressed ready,
    takeCommand_busy (s := { s with mgmt := { s.mgmt with acked := 6, selected := 0x50#8 } }) c _ busy]
  by_cases role : isRoleCommand c = true
  · simp only [if_pos role, stopped, if_pos (isRoleCommand_iff.mp role), cancelPromote_eq]
    rfl
  · simp only [if_neg role, stopped, if_neg (mt isRoleCommand_iff.mpr role)]
    rfl

/-! ### The rows that are writes of one item (R170, 11.4) -/

/-- The region items' numbers, and that each is a configuration item with a rule of its own. -/
theorem regionItem_kinds (n : BitVec 4) :
    itemKind (spanItem n) = some .config ∧ spanItem n ≠ 0x32#8 ∧ spanItem n ≠ 0x38#8
      ∧ itemKind (modeItem n) = some .config ∧ modeItem n ≠ 0x32#8 ∧ modeItem n ≠ 0x38#8 := by
  revert n
  decide

theorem writeOwn_config {item : Byte} (kind : itemKind item = some .config) (h₁ : item ≠ 0x32#8) (h₂ : item ≠ 0x38#8)
    (v : Word) : writeOwn item v = writeConfig item v := by
  funext s
  simp only [writeOwn, kind, if_neg h₁, if_neg h₂]

end

/-- Settles O50: the checks, the rows that are item writes, and what the slot refuses. -/
theorem writeChecksInOrder : Obligations.WriteChecksInOrder := by
  intro target s addressed told
  refine ⟨fun item d => ⟨fun unknown => ?_, fun known loading => ?_, fun kind ready => ?_⟩, fun d ready => ?_,
    fun d => ⟨rfl, rfl, rfl, fun n => ?_⟩, fun p mem => ?_, fun p mem => ?_⟩
  · exact congrArg _ (writeTransaction_unknown _ addressed unknown)
  · obtain ⟨kind, named⟩ := Option.ne_none_iff_exists'.mp known
    exact congrArg _ (writeTransaction_loading _ addressed named loading)
  · exact congrArg _ (writeTransaction_readOnly _ addressed kind ready)
  · intro v unnamed
    have none : commandOfCode (valueOf d).toNat = .none :=
      commandOfCode_eq_none (unnamed.imp_left fun zero => congrArg BitVec.toNat zero)
    have taken := writeTransaction_own s (writeOwn 0x50#8 (valueOf d)) addressed itemKind_command (by decide) ready
    refine congrArg _ (taken.trans ?_)
    rw [writeOwn_command, writeCommand, none]
    rfl
  · obtain ⟨span, s₁, s₂, mode, m₁, m₂⟩ := regionItem_kinds n
    have same {item : Byte} (own : writeOwn item (valueOf d) = writeConfig item (valueOf d)) :
        Host.Outcome.next (writeTransaction target item (writeConfig item (valueOf d)) s)
          = exec (.itemWrite target item d) s := by
      rw [← own]
      rfl
    exact ⟨same (writeOwn_config span s₁ s₂ _), same (writeOwn_config mode m₁ m₂ _)⟩
  · have row (c : Command) := exec_commandRow_eq_itemWrite (s := s) (target := target) c
    simp only [List.mem_cons, List.not_mem_nil, or_false] at mem
    rcases mem with rfl | rfl | rfl | rfl | rfl | rfl | rfl | rfl
    · exact row .setActive
    · exact row .setStandby
    · exact row .setNone
    · exact row .handover
    · exact row .resync
    · exact row .restart
    · exact row .reload
    · exact row .clearCounters
  · have row : p.1 = commandRow target p.2 := by
      simp only [List.mem_cons, List.not_mem_nil, or_false] at mem
      rcases mem with rfl | rfl | rfl | rfl | rfl | rfl | rfl | rfl <;> rfl
    rw [row]
    exact ⟨exec_commandRow_loading p.2 addressed, exec_commandRow_busy p.2 addressed⟩

end Sys2Proof.Machine
end

section
/-! PROOFS. Writes of EVENT_ROUTES and LINK_CONTROL. -/

namespace Sys2Proof.Machine

open Sys2Proof.Safety

section
variable {s : State} {target : BitVec 7} {v : Word}

/-! ### A configuration item's write (R173, R174) -/

theorem writeConfig_of_ok {item : Byte} {cfg : Settings} (judged : judgeConfig s.pair.role s.cfg item v = .ok cfg) :
    writeConfig item v s = { s with cfg := cfg, mgmt := { s.mgmt with access := .ok } } := by
  rw [writeConfig, judged]
  rfl

theorem writeConfig_of_error {item : Byte} {a : Access} (judged : judgeConfig s.pair.role s.cfg item v = .error a) :
    writeConfig item v s = { s with mgmt := { s.mgmt with access := a } } := by
  rw [writeConfig, judged]
  rfl

/-! ### EVENT_ROUTES (R160, R161) -/

theorem mem_allEvents (e : Event) : e ∈ allEvents := List.mem_of_getElem? (allEvents_eventBit e)

theorem eventBit_of_getElem {i : Nat} {e : Event} (h : allEvents[i]? = some e) : eventBit e = i := by
  have bound : i < 15 := (List.getElem?_eq_some_iff.mp h).1
  interval_cases i <;> cases h <;> rfl

theorem routeAllowed_iff {routes : BitVec 30} {e : Event} : routeAllowed routes e = true ↔ routeCode routes e ≤ 1
    ∨ (routeCode routes e = 2 ∧ (e = .linkLost ∨ e = .partnerInconsistent)) := by
  simp [routeAllowed]

/-- The whole value is checked before any route changes (R160). -/
theorem judgeRoutes_eq (cfg : Settings) (v : Word) [Decidable (v.toNat < 2 ^ 30 ∧ ∀ e : Event,
    routeCode (v.extractLsb' 0 30) e ≤ 1
      ∨ (routeCode (v.extractLsb' 0 30) e = 2 ∧ (e = .linkLost ∨ e = .partnerInconsistent)))] :
    judgeRoutes cfg v = if v.toNat < 2 ^ 30 ∧ ∀ e : Event, routeCode (v.extractLsb' 0 30) e ≤ 1
      ∨ (routeCode (v.extractLsb' 0 30) e = 2 ∧ (e = .linkLost ∨ e = .partnerInconsistent))
    then .ok { cfg with routes := v.extractLsb' 0 30 } else .error .badValue := by
  have low : onlyIn 0x3FFFFFFF#32 v = true ↔ v.toNat < 2 ^ 30 := onlyIn_low_iff (n := 30) v
  have all : allEvents.all (routeAllowed (v.extractLsb' 0 30)) = true ↔ ∀ e : Event, routeCode (v.extractLsb' 0 30) e ≤ 1
      ∨ (routeCode (v.extractLsb' 0 30) e = 2 ∧ (e = .linkLost ∨ e = .partnerInconsistent)) := by
    rw [List.all_eq_true]
    exact ⟨fun h e => routeAllowed_iff.mp (h e (mem_allEvents e)), fun h e _ => routeAllowed_iff.mpr (h e)⟩
  unfold judgeRoutes
  refine if_congr ?_ rfl rfl
  rw [Bool.and_eq_true, low, all]

theorem exec_eventRoutes_of_ready {d : DataBytes} (addressed : acknowledges target s = true)
    (ready : s.loader.state ≠ .loading) : exec (.eventRoutes target d) s =
      .next (writeRoutes (valueOf d) { s with mgmt := { s.mgmt with acked := 6, selected := 0x32#8 } }) :=
  congrArg _ (writeTransaction_own s _ addressed (kind := .config) rfl (by decide) ready)

theorem exec_linkControl_of_ready {d : DataBytes} (addressed : acknowledges target s = true)
    (ready : s.loader.state ≠ .loading) : exec (.linkControl target d) s =
      .next (writeLinkControl (valueOf d) { s with mgmt := { s.mgmt with acked := 6, selected := 0x38#8 } }) :=
  congrArg _ (writeTransaction_own s _ addressed (kind := .config) rfl (by decide) ready)

/-! ### LINK_CONTROL's fields (R51) -/

/-- The two bits from bit 4 on are a code of their own. -/
theorem and_code_eq (v : Word) : v &&& 0x30#32 = BitVec.ofNat 32 (16 * (v.extractLsb' 4 2).toNat) := by
  have mask : ∀ i < 32, (0x30#32).getLsbD i = (decide (4 ≤ i) && decide (i < 6)) := by decide
  have shifted : v &&& 0x30#32 = (v.extractLsb' 4 2).setWidth 32 <<< 4 := by
    refine BitVec.eq_of_getLsbD_eq fun i hi => ?_
    simp only [BitVec.getLsbD_and, mask i hi, BitVec.getLsbD_shiftLeft, BitVec.getLsbD_setWidth,
      BitVec.getLsbD_extractLsb']
    grind
  apply BitVec.eq_of_toNat_eq
  have small := (v.extractLsb' 4 2).isLt
  rw [shifted, BitVec.toNat_shiftLeft, BitVec.toNat_setWidth, BitVec.toNat_ofNat, Nat.shiftLeft_eq]
  omega

theorem and_code_eq_iff {k : Nat} (small : k < 4) : v &&& 0x30#32 = BitVec.ofNat 32 (16 * k) ↔ (v.extractLsb' 4 2).toNat = k := by
  have bound := (v.extractLsb' 4 2).isLt
  rw [and_code_eq, ← BitVec.toNat_inj, BitVec.toNat_ofNat, BitVec.toNat_ofNat]
  omega

theorem rateOfCode_iff {k : Nat} {rate : LinkRate} : rateOfCode k = some rate ↔ k = rateCode rate := by
  cases rate <;> unfold rateOfCode rateCode <;> split <;> simp_all

theorem rateOfCode_eq_none_iff {k : Nat} (small : k < 4) : rateOfCode k = none ↔ k = 3 := by
  interval_cases k <;> simp [rateOfCode]

/-- A value of LINK_CONTROL that names no rate or has a 1 in a zero position (R51). -/
theorem judgeLinkControl_of_invalid (cfg : Settings) (invalid : ¬(v &&& 0xFFFFFFCE#32 = 0#32 ∧ v &&& 0x30#32 ≠ 0x30#32)) :
    judgeLinkControl cfg v = .error .badValue := by
  have bound := (v.extractLsb' 4 2).isLt
  unfold judgeLinkControl
  by_cases low : onlyIn 0x31#32 v = true
  · have zero : v &&& 0xFFFFFFCE#32 = 0#32 := beq_iff_eq.mp low
    have code : rateOfCode (v.extractLsb' 4 2).toNat = none := by
      rw [rateOfCode_eq_none_iff bound, ← and_code_eq_iff (k := 3) (by decide)]
      by_contra other
      exact invalid ⟨zero, other⟩
    rw [if_pos low, code]
  · exact if_neg low

/-- A value of LINK_CONTROL that names a rate: LOCKED, or its fields (R51). -/
theorem judgeLinkControl_of_rate (cfg : Settings) {rate : LinkRate} (zero : v &&& 0xFFFFFFCE#32 = 0#32)
    (code : v &&& 0x30#32 = BitVec.ofNat 32 (16 * rateCode rate)) : judgeLinkControl cfg v =
      if cfg.linkEnable = true ∧ rate ≠ cfg.linkRate then .error .locked
      else .ok { cfg with linkEnable := v.getLsbD 0, linkRate := rate } := by
  have small : rateCode rate < 4 := by cases rate <;> decide
  have low : onlyIn 0x31#32 v = true := beq_iff_eq.mpr zero
  have named : rateOfCode (v.extractLsb' 4 2).toNat = some rate := rateOfCode_iff.mpr ((and_code_eq_iff small).mp code)
  unfold judgeLinkControl
  rw [if_pos low, named]
  refine if_congr ?_ rfl rfl
  simp [bne_iff_ne]

theorem writeLinkControl_of_error {a : Access} (judged : judgeLinkControl s.cfg v = .error a) :
    writeLinkControl v s = finish { s with mgmt := { s.mgmt with access := a } } := by
  rw [writeLinkControl, writeConfig_of_error (item := 0x38#8) judged]
  have stays := (followLinkControl_cases s.cfg.linkRate { s with mgmt := { s.mgmt with access := a } }).2.2.2
  exact congrArg finish stays

/-! ### A disable, with a handover under way or not (R70) -/

/-- A link that is OFF with its timers stopped, beside the serializer and the access status that a step goes on with. -/
structure LinkDown (serializer : Serializer) (access : Access) (t : State) : Prop where
  link : t.pair.link = .off
  hello : t.pair.helloTimer = none
  loss : t.pair.lossTimer = none
  serializer : t.tx.serializer = serializer
  access : t.mgmt.access = access

section
variable {ser : Serializer} {a : Access}

/-- A change of role leaves a link that is OFF alone (R74). -/
theorem LinkDown.changeRole (h : LinkDown ser a s) (new : Role) : LinkDown ser a (changeRole new s) := by
  have pair : (Machine.changeRole new s).pair = { s.pair with role := new, promoteTimer := none } := by
    simp [changeRole_eq, roleLink, roleEntered, cancelPromote_eq, enterRole, h.link]
  exact {
    link := by rw [pair]; exact h.link
    hello := by rw [pair]; exact h.hello
    loss := by rw [pair]; exact h.loss
    serializer := by rw [changeRole_serializer]; exact h.serializer
    access := by rw [changeRole_mgmt]; exact h.access }

theorem LinkDown.takeHandoverRole (h : LinkDown ser a s) : LinkDown ser a (takeHandoverRole s) := by
  cases pending : s.apply.handoverPending with
  | none => rwa [takeHandoverRole_of_none pending]
  | some x =>
    rw [takeHandoverRole_of_pending pending]
    exact { h.changeRole .active with }

theorem LinkDown.handoverOffUp (h : LinkDown ser a s) : LinkDown ser a (handoverOffUp s) := by
  unfold Machine.handoverOffUp
  split
  · split
    next epoch seq _ _ =>
      have changed := h.changeRole .standby
      exact {
        link := by simpa [handoverComplete, endCommand] using changed.link
        hello := by simpa [handoverComplete, endCommand] using changed.hello
        loss := by simpa [handoverComplete, endCommand] using changed.loss
        serializer := by simpa [handoverComplete, endCommand] using changed.serializer
        access := by simpa [handoverComplete, endCommand] using changed.access }
    next =>
      exact {
        link := by simpa [handoverCancel, endCommand] using h.link
        hello := by simpa [handoverCancel, endCommand] using h.hello
        loss := by simpa [handoverCancel, endCommand] using h.loss
        serializer := by simpa [handoverCancel, endCommand] using h.serializer
        access := by simpa [handoverCancel, endCommand] using h.access }
  · exact h

theorem linkDown_linkOff (s : State) : LinkDown s.tx.serializer s.mgmt.access (linkOff s) := by
  unfold linkOff
  split
  next up =>
    have core : LinkDown s.tx.serializer s.mgmt.access (leaveUpCore .off s) := {
      link := by rw [leaveUpCore_pair _ _ up]
      hello := by rw [leaveUpCore_pair _ _ up, if_pos rfl]
      loss := by rw [leaveUpCore_pair _ _ up]; rfl
      serializer := leaveUpCore_serializer s .off
      access := by rw [leaveUpCore_mgmt] }
    rw [leaveUp, if_pos up]
    exact core.takeHandoverRole.handoverOffUp
  next => exact ⟨rfl, rfl, rfl, rfl, rfl⟩

theorem linkDown_disableLink (s : State) :
    LinkDown (cutOff s.tx.serializer) s.mgmt.access (disableLink s) :=
  { (linkDown_linkOff { s with tx := { s.tx with serializer := cutOff s.tx.serializer } }).takeHandoverRole with }

end

theorem disableLink_rx (s : State) : (disableLink s).rx = clearedRx .notWatching s.rx := by
  rw [disableLink]
  simp

theorem disableLink_tx (s : State) : (disableLink s).tx =
    { serializer := cutOff s.tx.serializer, helloDue := false, ackRequest := .none, pulseDue := false
      pulseTimer := none } := by
  rw [← (linkDown_disableLink s).serializer]
  rfl

theorem followLinkControl_of_kept {enable : Bool} {rate : LinkRate} (kept : enable = s.cfg.linkEnable)
    (same : enable = false ∨ s.cfg.linkRate = rate) : followLinkControl enable rate s = s := by
  subst kept
  rcases same with off | rfl
  · simp only [followLinkControl, off]
  · exact (followLinkControl_cases s.cfg.linkRate s).2.2.2

theorem enableLink_of_off (off : s.pair.link = .off) : enableLink s = { s with
    rx := { s.rx with receiver := .hunting, assembler := .hunt, buffer := [] }
    pair := { s.pair with link := .down, helloTimer := some s.cfg.helloInterval.toNat, lossTimer := none }
    tx := { s.tx with helloDue := true } } := by
  simp [enableLink, enterLink, helloTimerAt, lossTimerAt, off, clearedRx]

/-- A step that ends with the link OFF sends nothing and keeps transmitter, receiver and link (R64). -/
theorem finish_of_off (off : s.pair.link = .off) : (finish s).tx = s.tx ∧ (finish s).rx = s.rx ∧ (finish s).pair = s.pair
    ∧ (finish s).cfg = s.cfg ∧ (finish s).mgmt = s.mgmt := by
  have idle : mayStart (settleHold s) = false := by
    simp [mayStart, off]
  rw [finish, schedule_of_not_mayStart idle]
  simp

end

/-- Settles O52: the two writes by their values, and the positions of the fifteen events. -/
theorem routesAndLinkControlWritten : Obligations.RoutesAndLinkControlWritten := by
  refine ⟨fun target d s addressed ready => ?_, fun target d s addressed ready => ?_, fun flags routes => ⟨?_, ?_⟩⟩
  · intro v routes told valid
    let u : State := { s with mgmt := { s.mgmt with acked := 6, selected := 0x32#8 } }
    rw [exec_eventRoutes_of_ready addressed ready]
    refine ⟨fun ok => ?_, fun bad exact_ => ?_⟩
    · have judged : judgeConfig u.pair.role u.cfg 0x32#8 v = .ok { s.cfg with routes := routes } := by
        classical exact (judgeRoutes_eq s.cfg v).trans (if_pos ok)
      rw [writeRoutes, show valueOf d = v from rfl, writeConfig_of_ok (s := u) judged]
      rfl
    · have judged : judgeConfig u.pair.role u.cfg 0x32#8 v = .error .badValue := by
        classical exact (judgeRoutes_eq s.cfg v).trans (if_neg bad)
      rw [writeRoutes, show valueOf d = v from rfl, writeConfig_of_error (s := u) judged, updateAlert]
      simp only [u, ← alertExact_iff.mp exact_]
      rfl
  · intro v told on valid
    let u : State := { s with mgmt := { s.mgmt with acked := 6, selected := 0x38#8 } }
    rw [exec_linkControl_of_ready addressed ready]
    refine ⟨fun bad => ?_, fun rate ⟨zero, _⟩ code => ⟨fun enabled other => ?_, fun same => ?_⟩⟩
    · exact congrArg _ (writeLinkControl_of_error (s := u) (judgeLinkControl_of_invalid s.cfg bad))
    · exact congrArg _ (writeLinkControl_of_error (s := u)
        ((judgeLinkControl_of_rate s.cfg zero code).trans (if_pos ⟨enabled, other⟩)))
    · intro set
      have free : ¬(s.cfg.linkEnable = true ∧ rate ≠ s.cfg.linkRate) := by
        rintro ⟨enabled, other⟩
        rcases same with off | kept
        · simp [off] at enabled
        · exact other kept
      have judged : judgeConfig u.pair.role u.cfg 0x38#8 v = .ok set.cfg :=
        (judgeLinkControl_of_rate s.cfg zero code).trans (if_neg free)
      have run : writeLinkControl v u = finish (followLinkControl s.cfg.linkEnable s.cfg.linkRate set) := by
        rw [writeLinkControl, writeConfig_of_ok (s := u) judged]
      rw [show valueOf d = v from rfl, run]
      refine ⟨fun kept => ?_, fun was turned off => ?_, fun was turned => ?_⟩
      · rw [followLinkControl_of_kept (s := set) kept.symm same]
      · rw [was, (followLinkControl_cases s.cfg.linkRate set).1 turned, enableLink_of_off (s := set) off]
      · rw [was, (followLinkControl_cases s.cfg.linkRate set).2.1 turned]
        have down := linkDown_disableLink set
        obtain ⟨tx, rx, pair, cfg, mgmt⟩ := finish_of_off down.link
        refine ⟨_, rfl, ?_, ?_, ?_, ?_, ?_, ?_, ?_, ?_⟩
        · rw [cfg, disableLink_cfg]
        · rw [mgmt, down.access]
        · rw [rx, disableLink_rx]
          rfl
        · rw [tx, disableLink_tx]
          rfl
        · rw [pair, down.link]
        · rw [pair]
          rfl
        · rw [pair, down.hello]
        · rw [pair, down.loss]
  · intro i e event
    have place : eventBit e = i := eventBit_of_getElem event
    refine ⟨by rw [flagSet, place], ?_⟩
    rw [routeCode, place, BitVec.extractLsb'_toNat, Nat.shiftRight_eq_div_pow, Nat.pow_mul]
  · rw [alertCondition, List.any_eq_true]
    refine exists_congr fun e => ?_
    rw [Bool.and_eq_true, beq_iff_eq, routeOf_eq_alert_iff]
    exact and_iff_right (mem_allEvents e)

end Sys2Proof.Machine
end

section
/-! PROOFS. Writes of the region items and the settings. -/

namespace Sys2Proof.Machine

open Sys2Proof.Safety

/-! ### The region items (R5 to R7) -/

/-- A region item's number names its entry and which half of it (11.4). -/
theorem regionItem_parts (n : BitVec 4) :
    itemEntry (spanItem n) = n ∧ (spanItem n).getLsbD 0 = false ∧ 0x60 ≤ (spanItem n).toNat ∧ (spanItem n).toNat ≤ 0x7F
      ∧ itemEntry (modeItem n) = n ∧ (modeItem n).getLsbD 0 = true ∧ 0x60 ≤ (modeItem n).toNat
      ∧ (modeItem n).toNat ≤ 0x7F := by
  revert n
  decide

theorem judgeConfig_span (role : Role) (cfg : Settings) (n : BitVec 4) (v : Word) :
    judgeConfig role cfg (spanItem n) v = inRoleNone role (judgeSpan cfg n v) := by
  obtain ⟨-, s₁, s₂, -⟩ := regionItem_kinds n
  obtain ⟨entry, even, low, high, -⟩ := regionItem_parts n
  rw [judgeConfig, if_neg s₁, if_neg s₂, if_pos ⟨low, high⟩, judgeRegionItem, even, entry]
  rfl

theorem judgeConfig_mode (role : Role) (cfg : Settings) (n : BitVec 4) (v : Word) :
    judgeConfig role cfg (modeItem n) v = inRoleNone role (judgeMode cfg n v) := by
  obtain ⟨-, -, -, -, m₁, m₂⟩ := regionItem_kinds n
  obtain ⟨-, -, -, -, entry, odd, low, high⟩ := regionItem_parts n
  rw [judgeConfig, if_neg m₁, if_neg m₂, if_pos ⟨low, high⟩, judgeRegionItem, odd, entry]
  rfl

theorem regionAt_setRegion (table : Vector RegionEntry 16) (n m : BitVec 4) (e : RegionEntry) :
    regionAt (setRegion table n e) m = if m = n then e else regionAt table m := by
  simp only [regionAt, setRegion, Vector.getElem_set, BitVec.toNat_inj, eq_comm]

/-- A span is taken where it ends within the address space (R5). -/
theorem judgeSpan_append (cfg : Settings) (n : BitVec 4) (base less : BitVec 16) : judgeSpan cfg n (base ++ less) =
    if base.toNat + (less.toNat + 1) ≤ 65536 then
      .ok (withRegion cfg n { regionAt cfg.regions n with base := base, countLess1 := less })
    else .error .badValue := by
  have high : (base ++ less).extractLsb' 16 16 = base := by
    rw [BitVec.extractLsb'_append_eq_of_le le_rfl]
    exact BitVec.extractLsb'_eq_self
  have low : (base ++ less).extractLsb' 0 16 = less := by
    rw [BitVec.extractLsb'_append_eq_of_add_le (by omega), BitVec.extractLsb'_eq_self]
  rw [judgeSpan, high, low]

theorem policyOfCode_iff {k : Nat} {policy : Policy} : policyOfCode k = some policy ↔ k = policyCode policy := by
  cases policy <;> unfold policyOfCode policyCode <;> split <;> simp_all

theorem policyOfCode_eq_none_iff {k : Nat} (small : k < 4) : policyOfCode k = none ↔ k = 3 := by
  interval_cases k <;> simp [policyOfCode]

section
variable {v : Word}

theorem judgeMode_of_invalid (cfg : Settings) (n : BitVec 4) (invalid : v &&& 0xFFFFFECE#32 ≠ 0#32 ∨ v &&& 0x30#32 = 0x30#32) :
    judgeMode cfg n v = .error .badValue := by
  have bound := (v.extractLsb' 4 2).isLt
  unfold judgeMode
  rcases invalid with ones | code
  · exact if_neg (mt beq_iff_eq.mp ones)
  · have none : policyOfCode (v.extractLsb' 4 2).toNat = none :=
      (policyOfCode_eq_none_iff bound).mpr ((and_code_eq_iff (k := 3) (by decide)).mp code)
    rw [none]
    split <;> rfl

theorem judgeMode_of_policy (cfg : Settings) (n : BitVec 4) {policy : Policy} (zero : v &&& 0xFFFFFECE#32 = 0#32)
    (code : v &&& 0x30#32 = BitVec.ofNat 32 (16 * policyCode policy)) : judgeMode cfg n v =
      .ok (withRegion cfg n { regionAt cfg.regions n with
        enabled := v.getLsbD 0, policy := policy, guard := if v.getLsbD 8 then .guarded else .opened }) := by
  have small : policyCode policy < 4 := by cases policy <;> decide
  have named : policyOfCode (v.extractLsb' 4 2).toNat = some policy := policyOfCode_iff.mpr ((and_code_eq_iff small).mp code)
  unfold judgeMode
  rw [if_pos (show onlyIn 0x131#32 v = true from beq_iff_eq.mpr zero), named]
  rfl

/-! ### The settings (R22, R32, R48, R66, R95, R150) -/

/-- The settings' item numbers and the values each one takes (11.4). -/
def settingRows : List (Byte × Nat × Nat) :=
  [(0x40#8, 1, 16), (0x41#8, 1, 255), (0x42#8, 1, 16), (0x43#8, 20, 65535), (0x44#8, 1, 15), (0x45#8, 10, 65535),
    (0x46#8, 100, 10000), (0x47#8, 100, 65535), (0x48#8, 1, 255), (0x49#8, 0, 255), (0x4A#8, 0, 2), (0x4B#8, 10, 5000),
    (0x4C#8, 10, 65535)]

/-- The configuration once a setting has taken a value of its range (R174). -/
def setSetting (item : Nat) (v : Word) (cfg : Settings) : Settings :=
  match item with
  | 0x40 => { cfg with coalesceLimit := v.extractLsb' 0 5 }
  | 0x41 => { cfg with coalesceWindow := v.extractLsb' 0 8 }
  | 0x42 => { cfg with window := v.extractLsb' 0 5 }
  | 0x43 => { cfg with retryTimeout := v.extractLsb' 0 16 }
  | 0x44 => { cfg with retryLimit := v.extractLsb' 0 4 }
  | 0x45 => { cfg with holdTimeout := v.extractLsb' 0 16 }
  | 0x46 => { cfg with helloInterval := v.extractLsb' 0 14 }
  | 0x47 => { cfg with lossTimeout := v.extractLsb' 0 16 }
  | 0x48 => { cfg with drainTimeout := v.extractLsb' 0 8 }
  | 0x49 => { cfg with promoteDelay := v.extractLsb' 0 8 }
  | 0x4A => { cfg with startRole := (roleOfCode v.toNat).getD .none }
  | 0x4B => { cfg with pulseInterval := v.extractLsb' 0 13 }
  | 0x4C => { cfg with confirmTimeout := v.extractLsb' 0 16 }
  | _ => cfg

theorem setSetting_regions (item : Nat) (cfg : Settings) : (setSetting item v cfg).regions = cfg.regions := by
  unfold setSetting
  split <;> rfl

/-- A setting's value is no other's (R174). -/
theorem settingValue_setSetting_of_ne {item i : Nat} (cfg : Settings) (other : i ≠ item) :
    settingValue i (setSetting item v cfg) = settingValue i cfg := by
  unfold setSetting
  split
  case h_14 => rfl
  all_goals
    unfold settingValue
    split <;> simp_all [linkControlItem]

theorem fieldAt_extractLsb' {w : Nat} (fits : v.toNat < 2 ^ w) : fieldAt 0 (v.extractLsb' 0 w).toNat = v := by
  rw [fieldAt, BitVec.extractLsb'_toNat, Nat.shiftRight_zero, Nat.mod_eq_of_lt fits]
  simp

theorem roleOfCode_code {n : Nat} (h : n ≤ 2) : ∃ role, roleOfCode n = some role ∧ roleCode role = n := by
  interval_cases n
  · exact ⟨.none, rfl, rfl⟩
  · exact ⟨.active, rfl, rfl⟩
  · exact ⟨.standby, rfl, rfl⟩

theorem judgeStartRole_eq (cfg : Settings) : judgeStartRole cfg v = ranged 0 2 v (setSetting 0x4A v cfg) := by
  unfold judgeStartRole ranged
  by_cases fits : v.toNat ≤ 2
  · obtain ⟨role, named, -⟩ := roleOfCode_code fits
    rw [named, if_pos ⟨Nat.zero_le _, fits⟩, setSetting, named]
    rfl
  · have none : roleOfCode v.toNat = .none := by
      unfold roleOfCode
      split
      case h_4 => rfl
      all_goals omega
    rw [none, if_neg fun h => fits h.2]

/-- Every setting is judged by its range, WINDOW only in role NONE (R32, R173). -/
theorem judgeConfig_setting (role : Role) (cfg : Settings) {row : Byte × Nat × Nat} (mem : row ∈ settingRows) :
    judgeConfig role cfg row.1 v =
      if row.1 = 0x42#8 then inRoleNone role (ranged row.2.1 row.2.2 v (setSetting row.1.toNat v cfg))
      else ranged row.2.1 row.2.2 v (setSetting row.1.toNat v cfg) := by
  simp only [settingRows, List.mem_cons, List.not_mem_nil, or_false] at mem
  rcases mem with rfl | rfl | rfl | rfl | rfl | rfl | rfl | rfl | rfl | rfl | rfl | rfl | rfl
  case inr.inr.inr.inr.inr.inr.inr.inr.inr.inr.inl => exact judgeStartRole_eq cfg
  all_goals rfl

/-- A setting reads back the value it has taken (R174). -/
theorem settingValue_setSetting (cfg : Settings) {row : Byte × Nat × Nat} (mem : row ∈ settingRows)
    (fits : v.toNat ≤ row.2.2) : settingValue row.1.toNat (setSetting row.1.toNat v cfg) = some v := by
  simp only [settingRows, List.mem_cons, List.not_mem_nil, or_false] at mem
  rcases mem with rfl | rfl | rfl | rfl | rfl | rfl | rfl | rfl | rfl | rfl | rfl | rfl | rfl
  case inr.inr.inr.inr.inr.inr.inr.inr.inr.inr.inl =>
    obtain ⟨role, named, code⟩ := roleOfCode_code fits
    have value : settingValue 0x4A (setSetting 0x4A v cfg) = some (fieldAt 0 (roleCode role)) := by
      rw [setSetting, named]
      rfl
    refine value.trans (congrArg some ?_)
    rw [code, fieldAt]
    simp
  all_goals exact congrArg some (fieldAt_extractLsb' (Nat.lt_of_le_of_lt fits (by decide)))

theorem settingRows_kinds : ∀ row ∈ settingRows,
    itemKind row.1 = some .config ∧ row.1 ≠ 0x32#8 ∧ row.1 ≠ 0x38#8 := by
  decide

end

section
variable {s : State} {target : BitVec 7}

/-- A write that reaches a configuration item's own rule (R173). -/
theorem writeTransaction_config {item : Byte} {v : Word} (addressed : acknowledges target s = true)
    (ready : s.loader.state ≠ .loading) (kind : itemKind item = some .config) :
    (∀ cfg, judgeConfig s.pair.role s.cfg item v = .ok cfg → writeTransaction target item (writeConfig item v) s =
      { s with cfg := cfg, mgmt := { s.mgmt with acked := 6, selected := item, access := .ok } })
    ∧ (∀ a, judgeConfig s.pair.role s.cfg item v = .error a → writeTransaction target item (writeConfig item v) s =
      { s with mgmt := { s.mgmt with acked := 6, selected := item, access := a } }) := by
  have own := writeTransaction_own s (writeConfig item v) addressed kind (by decide) ready
  let u : State := { s with mgmt := { s.mgmt with acked := 6, selected := item } }
  refine ⟨fun cfg judged => ?_, fun a judged => ?_⟩
  · rw [own, writeConfig_of_ok (s := u) judged]
  · rw [own, writeConfig_of_error (s := u) judged]

end

/-- Settles O53: the region items by role and value, the settings by lock and range. -/
theorem settingsWritten : Obligations.SettingsWritten := by
  intro target s addressed ready told
  refine ⟨fun n d => ?_, fun row mem d => ?_⟩
  · intro v span mode old replaced
    have kinds := regionItem_kinds n
    obtain ⟨spanOk, spanError⟩ := writeTransaction_config (v := v) addressed ready kinds.1
    obtain ⟨modeOk, modeError⟩ := writeTransaction_config (v := v) addressed ready kinds.2.2.2.1
    have takes {c : Instr} {item : Byte} (e : RegionEntry)
        (run : exec c s = .next { s with cfg := withRegion s.cfg n e, mgmt := told item .ok }) : replaced c item e :=
      ⟨setRegion s.cfg.regions n e, fun m => regionAt_setRegion s.cfg.regions n m e, run⟩
    refine ⟨fun role => ?_, fun role => ⟨fun base less form => ⟨fun fits => ?_, fun beyond => ?_⟩, fun bad => ?_,
      fun policy zero code => ?_⟩⟩
    · exact ⟨congrArg _ (spanError .locked ((judgeConfig_span ..).trans (if_neg role))),
        congrArg _ (modeError .locked ((judgeConfig_mode ..).trans (if_neg role)))⟩
    · refine takes _ (congrArg _ (spanOk _ ?_))
      rw [judgeConfig_span, inRoleNone, if_pos role, form, judgeSpan_append, if_pos fits]
    · refine congrArg _ (spanError .badValue ?_)
      rw [judgeConfig_span, inRoleNone, if_pos role, form, judgeSpan_append, if_neg (Nat.not_le.mpr beyond)]
    · refine congrArg _ (modeError .badValue ?_)
      rw [judgeConfig_mode, inRoleNone, if_pos role, judgeMode_of_invalid _ _ bad]
    · refine takes _ (congrArg _ (modeOk _ ?_))
      rw [judgeConfig_mode, inRoleNone, if_pos role, judgeMode_of_policy _ _ zero code]
  · intro v
    have row_mem : row ∈ settingRows := mem
    obtain ⟨kind, h₁, h₂⟩ := settingRows_kinds row row_mem
    obtain ⟨ok, error⟩ := writeTransaction_config (v := v) addressed ready kind
    have judged := judgeConfig_setting (v := v) s.pair.role s.cfg row_mem
    have run : exec (.itemWrite target row.1 d) s = .next (writeTransaction target row.1 (writeConfig row.1 v) s) := by
      rw [← writeOwn_config kind h₁ h₂]
      rfl
    rw [run]
    refine ⟨fun window role => ?_, fun open_ => ?_⟩
    · exact congrArg _ (error .locked (judged.trans ((if_pos window).trans (if_neg role))))
    · have free : judgeConfig s.pair.role s.cfg row.1 v = ranged row.2.1 row.2.2 v (setSetting row.1.toNat v s.cfg) := by
        by_cases window : row.1 = 0x42#8
        · exact judged.trans ((if_pos window).trans (if_pos (open_.resolve_left (not_not.mpr window))))
        · exact judged.trans (if_neg window)
      refine ⟨fun out => ?_, fun low high => ⟨_, congrArg _ (ok _ (free.trans (if_pos ⟨low, high⟩))),
        settingValue_setSetting s.cfg row_mem high, setSetting_regions _ _,
        fun i other => settingValue_setSetting_of_ne s.cfg other⟩⟩
      exact congrArg _ (error .badValue (free.trans (if_neg (by omega))))

end Sys2Proof.Machine
end

section
/-! PROOFS. Transactions of the management port, and the layout of every item it reads. -/

namespace Sys2Proof.Machine

open Sys2Proof.Safety

section
variable {s : State} {target : BitVec 7}

/-! ### Addressing and selection (R169, R170) -/

theorem acknowledges_eq_false_iff : acknowledges target s = false ↔
    s.phase ≠ .running ∨ s.wrst = true ∨ target.toNat ≠ 92 + s.mgmt.strapAddr.toNat := by
  have own : targetAddress s = 92 + s.mgmt.strapAddr.toNat := rfl
  rw [acknowledges, own, Bool.and_eq_false_iff, Bool.and_eq_false_iff, beq_eq_false_iff_ne, beq_eq_false_iff_ne,
    Bool.not_eq_false', or_assoc]

theorem transaction_of_ignored (bytes : Nat) (taken : State → State) (ignored : acknowledges target s = false) :
    transaction target bytes taken s = { s with mgmt := { s.mgmt with acked := 0 } } :=
  if_neg (Bool.eq_false_iff.mp ignored)

theorem transaction_of_taken (bytes : Nat) (taken : State → State) (addressed : acknowledges target s = true) :
    transaction target bytes taken s = taken { s with mgmt := { s.mgmt with acked := bytes } } :=
  if_pos addressed

/-! ### Reads (R171) -/

theorem sentBytes_length {count : Nat} (v : Word) (some : 1 ≤ count) : (sentBytes v count).length = count := by
  have four : (wordBytes v).length = 4 := rfl
  rw [sentBytes, List.length_take, List.length_append, List.length_replicate, four]
  omega

/-- Beyond the value's four bytes a read takes bytes of 0 (R171). -/
theorem sentBytes_getElem? {count i : Nat} (v : Word) (inside : i < count) :
    (sentBytes v count)[i]? = some ((wordBytes v)[i]?.getD 0#8) := by
  have four : (wordBytes v).length = 4 := rfl
  rw [sentBytes, List.getElem?_take_of_lt inside]
  by_cases first : i < 4
  · rw [List.getElem?_append_left (by omega), List.getElem?_eq_getElem (by omega)]
    rfl
  · rw [List.getElem?_append_right (by omega), List.getElem?_replicate_of_lt (by omega),
      List.getElem?_eq_none (by omega)]
    rfl

theorem accessAfterRead_eq (s : State) : accessAfterRead s = if s.mgmt.selected = 0x22#8 then s.mgmt.access
    else if itemValue s.mgmt.selected s = none then .unknown else .ok := by
  unfold accessAfterRead
  cases itemValue s.mgmt.selected s <;> rfl

/-! ### The items that exist (11.4) -/

theorem itemKind_eq_none_iff (item : Byte) : itemKind item = none ↔ ¬(item.toNat ≤ 0x01
    ∨ (0x10 ≤ item.toNat ∧ item.toNat ≤ 0x23) ∨ (0x28 ≤ item.toNat ∧ item.toNat ≤ 0x2C)
    ∨ (0x30 ≤ item.toNat ∧ item.toNat ≤ 0x32) ∨ item.toNat = 0x38 ∨ (0x40 ≤ item.toNat ∧ item.toNat ≤ 0x4C)
    ∨ item.toNat = 0x50 ∨ item.toNat = 0x51 ∨ (0x60 ≤ item.toNat ∧ item.toNat ≤ 0x7F)) := by
  unfold itemKind
  dsimp only
  split
  · simp only [reduceCtorEq, false_iff]
    omega
  · split
    · simp only [reduceCtorEq, false_iff]
      omega
    · split
      · simp only [reduceCtorEq, false_iff]
        omega
      · split
        · simp only [reduceCtorEq, false_iff]
          omega
        · simp only [true_iff]
          omega

theorem statusValue_eq_none_iff (n : Nat) (s : State) : statusValue n s = none ↔ ¬(n ≤ 0x01 ∨ (0x10 ≤ n ∧ n ≤ 0x23)
    ∨ (0x28 ≤ n ∧ n ≤ 0x2C) ∨ n = 0x30 ∨ n = 0x31 ∨ n = 0x50 ∨ n = 0x51) := by
  unfold statusValue
  split
  case h_32 =>
    refine iff_of_true rfl ?_
    simp only [imp_false] at *
    omega
  all_goals simp

theorem settingValue_eq_none_iff (n : Nat) (cfg : Settings) : settingValue n cfg = none ↔
    ¬(n = 0x32 ∨ n = 0x38 ∨ (0x40 ≤ n ∧ n ≤ 0x4C)) := by
  unfold settingValue
  split
  case h_16 =>
    refine iff_of_true rfl ?_
    simp only [imp_false] at *
    omega
  all_goals simp

theorem itemValue_eq_none_iff (item : Byte) (s : State) : itemValue item s = none ↔ itemKind item = none := by
  rw [itemKind_eq_none_iff]
  unfold itemValue
  split
  next region =>
    simp only [reduceCtorEq, false_iff]
    omega
  next other =>
    cases status : statusValue item.toNat s with
    | some v =>
      have named : ¬statusValue item.toNat s = none := by simp [status]
      rw [statusValue_eq_none_iff] at named
      simp only [reduceCtorEq, false_iff]
      omega
    | none =>
      rw [statusValue_eq_none_iff] at status
      rw [settingValue_eq_none_iff]
      omega

end

/-! ### Fields at their places (11.4) -/

/-- A list that holds every value at the place of its code gives each value's code by its place. -/
theorem code_of_place {α : Type} {L : List α} {code : α → Nat} (n : Nat) (codes : L.map code = List.range n) {x : α} {k : Nat}
    (place : L[k]? = some x) : code x = k ∧ k < n := by
  have mapped : (L.map code)[k]? = some (code x) := by rw [List.getElem?_map, place]; rfl
  rw [codes] at mapped
  obtain ⟨bound, here⟩ := List.getElem?_eq_some_iff.mp mapped
  rw [List.length_range] at bound
  exact ⟨by rw [← here, List.getElem_range], bound⟩

theorem fieldAt_toNat {lo v : Nat} (fits : 2 ^ lo * v < 2 ^ 32) : (fieldAt lo v).toNat = 2 ^ lo * v := by
  have small : v < 2 ^ 32 := Nat.lt_of_le_of_lt (Nat.le_mul_of_pos_left v (Nat.two_pow_pos lo)) fits
  rw [fieldAt, BitVec.toNat_shiftLeft, BitVec.toNat_ofNat, Nat.mod_eq_of_lt small, Nat.shiftLeft_eq, Nat.mul_comm,
    Nat.mod_eq_of_lt fits]

theorem fieldAt_zero_toNat {v : Nat} (fits : v < 2 ^ 32) : (fieldAt 0 v).toNat = v := by
  rw [fieldAt_toNat (by omega)]
  omega

/-- A field above the bits of a word adds its multiple of the place's value. -/
theorem or_fieldAt_toNat {a : Word} {n lo v : Nat} (value : a.toNat = n) (below : n < 2 ^ lo) (fits : 2 ^ lo * v < 2 ^ 32) :
    (a ||| fieldAt lo v).toNat = n + 2 ^ lo * v := by
  rw [BitVec.toNat_or, fieldAt_toNat fits, value, Nat.or_comm, ← Nat.two_pow_add_eq_or_of_lt below, Nat.add_comm]

theorem highHalf_eq (h : Half) : highHalf h = fieldAt 16 h.toNat := by
  apply BitVec.eq_of_toNat_eq
  have small := h.isLt
  rw [fieldAt_toNat (by omega), highHalf, BitVec.toNat_append]
  simp [Nat.shiftLeft_eq, Nat.mul_comm]

theorem lowHalf_eq (h : Half) : lowHalf h = fieldAt 0 h.toNat := by
  apply BitVec.eq_of_toNat_eq
  have small := h.isLt
  rw [fieldAt_zero_toNat (by omega), lowHalf, BitVec.toNat_append]
  simp

/-- The high half of an item may be put in last. -/
theorem or_high₃ (h a b c : Word) : h ||| a ||| b ||| c = a ||| b ||| c ||| h := by
  ac_rfl

theorem or_high₅ (h a b c d e : Word) : h ||| a ||| b ||| c ||| d ||| e = a ||| b ||| c ||| d ||| e ||| h := by
  ac_rfl

/-- The item reads the value (R171). -/
def Reads (s : State) (item : Byte) (value : Nat) : Prop := (itemValue item s).map BitVec.toNat = some value

theorem reads_of_value {s : State} {item : Byte} {w : Word} {value : Nat} (eq : itemValue item s = some w)
    (toNat : w.toNat = value) : Reads s item value := by
  rw [Reads, eq, Option.map_some, toNat]

theorem reads_lowHalf {s : State} {item : Byte} {h : Half} (eq : itemValue item s = some (lowHalf h)) :
    Reads s item h.toNat := by
  have small := h.isLt
  exact reads_of_value eq (by rw [lowHalf_eq, fieldAt_zero_toNat (by omega)])

theorem reads_field {s : State} {item : Byte} {v : Nat} (eq : itemValue item s = some (fieldAt 0 v)) (fits : v < 2 ^ 32) :
    Reads s item v :=
  reads_of_value eq (fieldAt_zero_toNat fits)

/-- A field of a width of its own fits its item. -/
theorem reads_bitVec {s : State} {item : Byte} {w : Nat} {x : BitVec w} (eq : itemValue item s = some (fieldAt 0 x.toNat))
    (width : w ≤ 32) : Reads s item x.toNat :=
  reads_field eq (Nat.lt_of_lt_of_le x.isLt (Nat.pow_le_pow_right (by decide) width))

section
variable {s : State}

/-! ### The state items (11.4) -/

theorem reads_identity : Reads s 0x00#8 0x2D710781
    ∧ Reads s 0x01#8 (s.mgmt.strapAddr.toNat + 16 * s.mgmt.strapLoadEn.toNat) := by
  have addr := s.mgmt.strapAddr.isLt
  have load := s.mgmt.strapLoadEn.toNat_le
  refine ⟨rfl, reads_of_value rfl ?_⟩
  exact or_fieldAt_toNat (lo := 4) (fieldAt_zero_toNat (by omega)) (by omega) (by omega)

theorem reads_code {α : Type} {L : List α} {code : α → Nat} {x : α} {k : Nat} {item : Byte} (n : Nat)
    (eq : itemValue item s = some (fieldAt 0 (code x))) (codes : L.map code = List.range n) (small : n < 2 ^ 32)
    (place : L[k]? = some x) : Reads s item k := by
  obtain ⟨rfl, bound⟩ := code_of_place n codes place
  exact reads_field eq (by omega)

theorem reads_streamState {k : Nat}
    (place : [StreamMode.closed, .normal, .resync, .tracking, .draining][k]? = some s.stream.mode) :
    Reads s 0x12#8 ((if s.pair.role = .active then k + 16 * s.stream.isOpen.toNat + 256 * s.stream.basisValid.toNat else 0)
      + 65536 * s.stream.epoch.toNat) := by
  obtain ⟨rfl, bound⟩ := code_of_place (code := modeCode) 5 rfl place
  have epoch := s.stream.epoch.isLt
  have open_ := s.stream.isOpen.toNat_le
  have basis := s.stream.basisValid.toNat_le
  have order : streamStateItem s = fieldAt 0 (modeCode (shownMode s))
      ||| fieldAt 4 (s.pair.role == .active && s.stream.isOpen).toNat
      ||| fieldAt 8 (s.pair.role == .active && s.stream.basisValid).toNat ||| fieldAt 16 s.stream.epoch.toNat := by
    rw [streamStateItem, highHalf_eq]
    exact or_high₃ _ _ _ _
  refine reads_of_value rfl ?_
  rw [order]
  by_cases role : s.pair.role = .active
  · rw [if_pos role]
    simp only [shownMode, role, if_true, beq_self_eq_true, Bool.true_and]
    exact or_fieldAt_toNat (lo := 16) (or_fieldAt_toNat (lo := 8) (or_fieldAt_toNat (lo := 4)
      (fieldAt_zero_toNat (by omega)) (by omega) (by omega)) (by omega) (by omega)) (by omega) (by omega)
  · rw [if_neg role]
    have empty : fieldAt 0 (modeCode (shownMode s)) ||| fieldAt 4 (s.pair.role == .active && s.stream.isOpen).toNat
        ||| fieldAt 8 (s.pair.role == .active && s.stream.basisValid).toNat = 0#32 := by
      rw [shownMode, if_neg role, beq_eq_false_iff_ne.mpr role, Bool.false_and, Bool.false_and]
      rfl
    rw [empty]
    exact or_fieldAt_toNat (lo := 16) rfl (by omega) (by omega)

theorem reads_consistency {k : Nat}
    (place : [Consistency.inconsistent, .resyncing, .consistent][k]? = some s.apply.consistency) :
    Reads s 0x13#8 (if s.pair.role = .standby then k else 0) := by
  obtain ⟨rfl, bound⟩ := code_of_place (code := consistencyCode) 3 rfl place
  refine reads_of_value rfl ?_
  cases role : s.pair.role with
  | standby =>
    simp only [reportedConsistency, role, if_true]
    exact fieldAt_zero_toNat (by omega)
  | _ =>
    simp only [reportedConsistency, role]
    rfl

theorem reads_heldEpoch : Reads s 0x14#8 (if s.pair.role = .standby then (s.apply.heldEpoch.getD 0#16).toNat
    + 65536 * s.apply.heldEpoch.isSome.toNat else 0) := by
  have epoch := (s.apply.heldEpoch.getD 0#16).isLt
  have held := s.apply.heldEpoch.isSome.toNat_le
  refine reads_of_value rfl ?_
  rw [lowHalf_eq, shownHeldEpoch]
  by_cases role : s.pair.role = .standby
  · simp only [if_pos role]
    exact or_fieldAt_toNat (lo := 16) (fieldAt_zero_toNat (by omega)) (by omega) (by omega)
  · simp only [if_neg role]
    rfl

theorem reads_expected : Reads s 0x15#8 (if s.pair.role = .standby then s.apply.expected.toNat else 0) := by
  have value : (shownExpected s).toNat = if s.pair.role = .standby then s.apply.expected.toNat else 0 := by
    unfold shownExpected
    split <;> rfl
  rw [← value]
  exact reads_lowHalf rfl

/-! ### The list, the map and the walker (11.4) -/

theorem reads_occupancy (wf : listWf s.list = true) : Reads s 0x16#8 (s.list.records.length + s.list.reserved.toNat
    + 256 * s.list.records.countP fun x => x.state == .sent) := by
  have room : occupancy s.list ≤ 64 := by
    simp only [listWf, Bool.and_eq_true, decide_eq_true_eq] at wf
    exact wf.1.1.1.1
  have sent : sentCount s.list ≤ s.list.records.length := List.countP_le_length
  have kept : s.list.records.length ≤ occupancy s.list := Nat.le_add_right _ _
  have value : (fieldAt 0 (occupancy s.list) ||| fieldAt 8 (sentCount s.list)).toNat
      = occupancy s.list + 256 * sentCount s.list :=
    or_fieldAt_toNat (lo := 8) (fieldAt_zero_toNat (by omega)) (by omega) (by omega)
  exact reads_of_value rfl value

/-- Two 16-bit values of one item. -/
theorem reads_halves {item : Byte} {high low : Half} (eq : itemValue item s = some (highHalf high ||| lowHalf low)) :
    Reads s item (low.toNat + 65536 * high.toNat) := by
  have h := high.isLt
  have l := low.isLt
  refine reads_of_value eq ?_
  rw [BitVec.or_comm, lowHalf_eq, highHalf_eq]
  exact or_fieldAt_toNat (lo := 16) (fieldAt_zero_toNat (by omega)) (by omega) (by omega)

theorem reads_dirtyCount (bound : s.dirty.length ≤ 4096) :
    Reads s 0x18#8 (if s.pair.role = .active then s.dirty.length else 0) := by
  refine reads_field (v := shownDirty s) rfl ?_
  unfold shownDirty
  split <;> omega

theorem reads_walkerPosition (bound : s.walker.cursor ≤ 4096) :
    Reads s 0x19#8 (s.walker.cursor + 65536 * s.walker.taken.toNat) := by
  have taken := s.walker.taken.toNat_le
  refine reads_of_value rfl ?_
  exact or_fieldAt_toNat (lo := 16) (fieldAt_zero_toNat (by omega)) (by omega) (by omega)

theorem reads_resyncStatus {k j i : Nat}
    (outcome : [ResyncOutcome.none, .running, .complete, .failed, .interrupted][k]? = some s.walker.outcome)
    (scope : [Scope.full, .partialScope][j]? = some s.walker.scope)
    (run : [RunState.stopped, .running, .paused, .finished][i]? = some s.walker.run) :
    Reads s 0x1A#8 (k + 16 * j + 256 * (if s.pair.role = .active then i else 0) + 65536 * s.walker.epoch.toNat) := by
  obtain ⟨rfl, k_lt⟩ := code_of_place (code := outcomeCode) 5 rfl outcome
  obtain ⟨rfl, j_lt⟩ := code_of_place (code := scopeCode) 2 rfl scope
  obtain ⟨rfl, i_lt⟩ := code_of_place (code := runCode) 4 rfl run
  have epoch := s.walker.epoch.isLt
  have shown : runCode (shownRun s) = if s.pair.role = .active then runCode s.walker.run else 0 := by
    unfold shownRun
    split <;> rfl
  have small : (if s.pair.role = .active then runCode s.walker.run else 0) < 4 := by
    split <;> omega
  have order : resyncStatusItem s = fieldAt 0 (outcomeCode s.walker.outcome) ||| fieldAt 4 (scopeCode s.walker.scope)
      ||| fieldAt 8 (runCode (shownRun s)) ||| fieldAt 16 s.walker.epoch.toNat := by
    rw [resyncStatusItem, highHalf_eq]
    exact or_high₃ _ _ _ _
  refine reads_of_value rfl ?_
  rw [order, shown]
  exact or_fieldAt_toNat (lo := 16) (or_fieldAt_toNat (lo := 8) (or_fieldAt_toNat (lo := 4)
    (fieldAt_zero_toNat (by omega)) (by omega) (by omega)) (by omega) (by omega)) (by omega) (by omega)

/-! ### The partner, faults, the load and the reflexes (11.4) -/

theorem reads_partnerState {k j : Nat} (role : [Role.none, .active, .standby][k]? = some s.pair.partner.role)
    (consistency : [Consistency.inconsistent, .resyncing, .consistent][j]? = some s.pair.partner.consistency) :
    Reads s 0x1B#8 (s.pair.partner.heard.toNat + 16 * k + 256 * j + 4096 * s.pair.partner.streamOpen.toNat
      + 8192 * s.pair.partner.epoch.isSome.toNat + 65536 * (s.pair.partner.epoch.getD 0#16).toNat) := by
  obtain ⟨rfl, k_lt⟩ := code_of_place (code := roleCode) 3 rfl role
  obtain ⟨rfl, j_lt⟩ := code_of_place (code := consistencyCode) 3 rfl consistency
  have epoch := (s.pair.partner.epoch.getD 0#16).isLt
  have heard := s.pair.partner.heard.toNat_le
  have open_ := s.pair.partner.streamOpen.toNat_le
  have held := s.pair.partner.epoch.isSome.toNat_le
  have order (p : PartnerView) : partnerStateItem p = fieldAt 0 p.heard.toNat ||| fieldAt 4 (roleCode p.role)
      ||| fieldAt 8 (consistencyCode p.consistency) ||| fieldAt 12 p.streamOpen.toNat ||| fieldAt 13 p.epoch.isSome.toNat
      ||| fieldAt 16 (p.epoch.getD 0#16).toNat := by
    rw [partnerStateItem, highHalf_eq]
    exact or_high₅ _ _ _ _ _ _
  refine reads_of_value rfl ?_
  rw [order]
  exact or_fieldAt_toNat (lo := 16) (or_fieldAt_toNat (lo := 13) (or_fieldAt_toNat (lo := 12) (or_fieldAt_toNat (lo := 8)
    (or_fieldAt_toNat (lo := 4) (fieldAt_zero_toNat (by omega)) (by omega) (by omega)) (by omega) (by omega))
    (by omega) (by omega)) (by omega) (by omega)) (by omega) (by omega)

theorem reads_byteAddr {item : Byte} {a : WordAddr} (eq : itemValue item s = some (fieldAt 0 a.byte)) :
    Reads s item (4 * a.toNat) := by
  have small := a.isLt
  exact reads_field (v := 4 * a.toNat) eq (by omega)

theorem reads_lastApplyFault {k : Nat} (cause : [FaultCause.none, .regionCheck, .memory][k]? = some s.apply.lastFault.cause) :
    Reads s 0x1F#8 (k + 65536 * s.apply.lastFault.seq.toNat) := by
  obtain ⟨rfl, bound⟩ := code_of_place (code := causeCode) 3 rfl cause
  have seq := s.apply.lastFault.seq.isLt
  refine reads_of_value rfl ?_
  rw [highHalf_eq]
  exact or_fieldAt_toNat (lo := 16) (fieldAt_zero_toNat (by omega)) (by omega) (by omega)

theorem reads_loadState {k : Nat}
    (place : [LoadState.loading, .loaded, .absent, .failed, .skipped][k]? = some s.loader.state) :
    Reads s 0x20#8 (k + 256 * s.loader.failIndex.toNat) := by
  obtain ⟨rfl, bound⟩ := code_of_place (code := loadCode) 5 rfl place
  have index := s.loader.failIndex.isLt
  refine reads_of_value rfl ?_
  exact or_fieldAt_toNat (lo := 8) (fieldAt_zero_toNat (by omega)) (by omega) (by omega)

theorem reads_reflexStatus {k j : Nat}
    (promote : [AutoPromote.none, .waiting, .promoted, .declined, .cancelled][k]? = some s.events.autoPromote)
    (resync : [AutoResync.none, .pending, .started, .replaced, .handoverCancelled, .noEffect][j]? =
      some s.events.autoResync) : Reads s 0x21#8 (k + 256 * j) := by
  obtain ⟨rfl, k_lt⟩ := code_of_place (code := autoPromoteCode) 5 rfl promote
  obtain ⟨rfl, j_lt⟩ := code_of_place (code := autoResyncCode) 6 rfl resync
  refine reads_of_value rfl ?_
  exact or_fieldAt_toNat (lo := 8) (fieldAt_zero_toNat (by omega)) (by omega) (by omega)

theorem reads_linkControl {k : Nat} (place : [LinkRate.r12, .r25, .r50][k]? = some s.cfg.linkRate) :
    Reads s 0x38#8 (s.cfg.linkEnable.toNat + 16 * k) := by
  obtain ⟨rfl, bound⟩ := code_of_place (code := rateCode) 3 rfl place
  have enable := s.cfg.linkEnable.toNat_le
  refine reads_of_value rfl ?_
  exact or_fieldAt_toNat (lo := 4) (fieldAt_zero_toNat (by omega)) (by omega) (by omega)

/-- COMMAND_RESULT by the codes of its five fields (11.5); a detail's code is its place in the list of its command. -/
theorem reads_commandResult {c st re d b : Nat}
    (command : [none, some Command.setActive, some .setStandby, some .setNone, some .handover, some .resync,
      some .restart, some .reload, some .clearCounters][c]? = some s.mgmt.result.command)
    (busy : [none, some Command.setActive, some .setStandby, some .setNone, some .handover, some .resync,
      some .restart, some .reload, some .clearCounters][b]? = some s.mgmt.result.busyRefusal)
    (state : [CmdState.idle, .inProgress, .done, .refused][st]? = some s.mgmt.result.state)
    (reason : [Reason.none, .busy, .notActive, .linkNotUp, .partnerNotReady, .streamNotNormal, .partnerActive,
      .drainTimeout, .linkLost, .partnerInconsistent, .notNone][re]? = some s.mgmt.result.reason)
    (detail : [Detail.none, .drain, .marked, .committed, .confirmed, .unconfirmed][d]? = some s.mgmt.result.detail
      ∨ [Detail.none, .loaded, .absent, .failed][d]? = some s.mgmt.result.detail) :
    Reads s 0x51#8 (c + 16 * st + 256 * re + 4096 * d + 65536 * b) := by
  obtain ⟨c_eq, c_lt⟩ := code_of_place (code := commandField) 9 rfl command
  obtain ⟨b_eq, b_lt⟩ := code_of_place (code := commandField) 9 rfl busy
  obtain ⟨st_eq, st_lt⟩ := code_of_place (code := cmdStateCode) 4 rfl state
  obtain ⟨re_eq, re_lt⟩ := code_of_place (code := reasonCode) 11 rfl reason
  obtain ⟨d_eq, d_lt⟩ : detailCode s.mgmt.result.detail = d ∧ d < 6 := by
    rcases detail with handover | reload
    · exact code_of_place 6 rfl handover
    · obtain ⟨eq, bound⟩ := code_of_place (code := detailCode) 4 rfl reload
      exact ⟨eq, by omega⟩
  refine reads_of_value rfl ?_
  rw [commandResultItem, c_eq, b_eq, st_eq, re_eq, d_eq]
  exact or_fieldAt_toNat (lo := 16) (or_fieldAt_toNat (lo := 12) (or_fieldAt_toNat (lo := 8) (or_fieldAt_toNat (lo := 4)
    (fieldAt_zero_toNat (by omega)) (by omega) (by omega)) (by omega) (by omega)) (by omega) (by omega))
    (by omega) (by omega)

/-! ### The region items (R8, 11.4) -/

theorem itemValue_region (n : BitVec 4) : itemValue (spanItem n) s = some (spanValue (regionAt s.cfg.regions n))
    ∧ itemValue (modeItem n) s = some (modeValue (regionAt s.cfg.regions n)) := by
  obtain ⟨spanEntry, even, s₁, s₂, modeEntry, odd, m₁, m₂⟩ := regionItem_parts n
  refine ⟨?_, ?_⟩
  · rw [itemValue, if_pos ⟨s₁, s₂⟩, regionItemValue, spanEntry, even]
    rfl
  · rw [itemValue, if_pos ⟨m₁, m₂⟩, regionItemValue, modeEntry, odd]
    rfl

theorem reads_span (n : BitVec 4) : Reads s (spanItem n)
    ((regionAt s.cfg.regions n).countLess1.toNat + 65536 * (regionAt s.cfg.regions n).base.toNat) := by
  have low := (regionAt s.cfg.regions n).countLess1.isLt
  refine reads_of_value (itemValue_region n).1 ?_
  rw [spanValue, BitVec.toNat_append, Nat.shiftLeft_eq, Nat.mul_comm, ← Nat.two_pow_add_eq_or_of_lt low, Nat.add_comm]

theorem reads_mode {n : BitVec 4} {k j : Nat} (policy : [Policy.pass, .stream, .confirm][k]? = some (regionAt s.cfg.regions n).policy)
    (guard : [Guard.opened, .guarded][j]? = some (regionAt s.cfg.regions n).guard) :
    Reads s (modeItem n) ((regionAt s.cfg.regions n).enabled.toNat + 16 * k + 256 * j) := by
  obtain ⟨rfl, k_lt⟩ := code_of_place (code := policyCode) 3 rfl policy
  obtain ⟨rfl, j_lt⟩ := code_of_place (code := guardCode) 2 rfl guard
  have enabled := (regionAt s.cfg.regions n).enabled.toNat_le
  refine reads_of_value (itemValue_region n).2 ?_
  exact or_fieldAt_toNat (lo := 8) (or_fieldAt_toNat (lo := 4) (fieldAt_zero_toNat (by omega)) (by omega) (by omega))
    (by omega) (by omega)

theorem toList_eq_map_regionAt (table : Vector RegionEntry 16) :
    table.toList = (List.range 16).map fun n => regionAt table (BitVec.ofNat 4 n) := by
  refine List.ext_getElem (by simp) fun n h₁ h₂ => ?_
  have bound : n < 16 := by simpa using h₂
  simp [regionAt, Nat.mod_eq_of_lt bound]

/-- The digest is the CRC of the region items as they are read (R8). -/
theorem regionDigest_eq_items (s : State) : regionDigest s.cfg.regions = crc16 ((List.range 16).flatMap fun n =>
    wordBytes ((itemValue (BitVec.ofNat 8 (0x60 + 2 * n)) s).getD 0#32)
      ++ wordBytes ((itemValue (BitVec.ofNat 8 (0x61 + 2 * n)) s).getD 0#32)) := by
  rw [regionDigest, toList_eq_map_regionAt, List.flatMap_map]
  refine congrArg crc16 (List.flatMap_congr fun n hn => ?_)
  have index : (BitVec.ofNat 4 n).toNat = n := Nat.mod_eq_of_lt (List.mem_range.mp hn)
  obtain ⟨span, mode⟩ := itemValue_region (s := s) (BitVec.ofNat 4 n)
  rw [spanItem, index] at span
  rw [modeItem, index] at mode
  rw [span, mode]
  rfl

end

/-- Settles O49: the transactions that change nothing, the selections and reads, and every item's layout. -/
theorem transactionsAddressSelectAndRead : Obligations.TransactionsAddressSelectAndRead := by
  refine ⟨fun target d n item data count s elsewhere c mem => ?_, fun target item data s addressed => ⟨?_, fun _ _ => ?_⟩,
    fun target count s addressed some => ⟨sentBytes ((itemValue s.mgmt.selected s).getD 0#32) count,
      sentBytes_length _ some, fun i inside => sentBytes_getElem? _ inside, ?_⟩,
    fun item s => ⟨itemValue_eq_none_iff item s, itemKind_eq_none_iff item⟩, fun s wf marks cursor => ?_⟩
  · have ignored := acknowledges_eq_false_iff.mpr elsewhere
    have writes (item : Byte) (own : State → State) :
        writeTransaction target item own s = { s with mgmt := { s.mgmt with acked := 0 } } :=
      transaction_of_ignored _ _ ignored
    have commands (c : Command) :
        exec (commandRow target c) s = .next { s with mgmt := { s.mgmt with acked := 0 } } := by
      rw [exec_commandRow, commandTransaction, writes]
    simp only [List.mem_cons, List.not_mem_nil, or_false] at mem
    rcases mem with rfl | rfl | rfl | rfl | rfl | rfl | rfl | rfl | rfl | rfl | rfl | rfl | rfl | rfl | rfl | rfl | rfl
    · exact commands .setActive
    · exact commands .setStandby
    · exact commands .setNone
    · exact commands .handover
    · exact commands .resync
    · exact commands .restart
    · exact commands .reload
    · exact commands .clearCounters
    · exact congrArg _ (writes _ _)
    · exact congrArg _ (writes _ _)
    · exact congrArg _ (writes _ _)
    · exact congrArg _ (writes _ _)
    · exact congrArg _ (writes _ _)
    · exact congrArg _ (writes _ _)
    · exact congrArg _ (transaction_of_ignored _ _ ignored)
    · exact congrArg _ (transaction_of_ignored _ _ ignored)
    · exact congrArg _ (transaction_of_ignored _ _ ignored)
  · exact congrArg _ (transaction_of_taken _ _ addressed)
  · exact congrArg _ (transaction_of_taken _ _ addressed)
  · refine congrArg _ ((transaction_of_taken _ _ addressed).trans ?_)
    rw [readSelected, accessAfterRead_eq]
    rfl
  · intro reads active standby epochOf p w r roles judgements commands
    exact ⟨reads_identity.1, reads_identity.2, fun _ => reads_code (code := roleCode) 3 rfl rfl (by decide),
      fun _ => reads_code (code := linkStateCode) 6 rfl rfl (by decide), fun _ => reads_streamState,
      fun _ => reads_consistency, reads_heldEpoch, reads_expected, reads_occupancy wf, reads_halves rfl,
      reads_dirtyCount marks, reads_walkerPosition cursor, fun _ _ _ => reads_resyncStatus,
      fun _ _ => reads_partnerState, reads_halves rfl, reads_lowHalf rfl, reads_byteAddr rfl,
      fun _ => reads_lastApplyFault, reads_byteAddr rfl, fun _ => reads_loadState, fun _ _ => reads_reflexStatus,
      fun _ => reads_code (code := accessCode) 7 rfl rfl (by decide), reads_lowHalf rfl, reads_lowHalf rfl,
      reads_lowHalf rfl, reads_lowHalf rfl, reads_lowHalf rfl, reads_bitVec rfl (by decide), rfl,
      reads_bitVec rfl (by decide), fun _ => reads_linkControl, reads_bitVec rfl (by decide),
      reads_bitVec rfl (by decide), reads_bitVec rfl (by decide), reads_bitVec rfl (by decide),
      reads_bitVec rfl (by decide), reads_bitVec rfl (by decide), reads_bitVec rfl (by decide),
      reads_bitVec rfl (by decide), reads_bitVec rfl (by decide), reads_bitVec rfl (by decide),
      fun _ => reads_code (code := roleCode) 3 rfl rfl (by decide), reads_bitVec rfl (by decide),
      reads_bitVec rfl (by decide), rfl, fun _ _ _ _ _ => reads_commandResult, regionDigest_eq_items s,
      wordBytes_toNat, fun n => ⟨reads_span n, fun _ _ => reads_mode⟩⟩

end Sys2Proof.Machine
end

end
